-- ==== Sys2Proof/Word.lean ====
section
/-! DEFINITION. The value types of the spec's notation (00_scope.md R13 to R16): bytes, 32-bit words, 10-bit
groups, wire bits, and the pair of time stamps every operation record carries. -/

namespace Sys2Proof

/-- An 8-bit byte cell (R13). -/
abbrev Byte := BitVec 8

/-- A 32-bit unsigned value: cycle counts, milliseconds, counters, sequence numbers (R13). -/
abbrev Word := BitVec 32

/-- A signed 32-bit value in two's complement: the jitter carry (R13). -/
abbrev SWord := BitVec 32

/-- The 10 transmitted bits that carry one byte; bit 9 is transmitted first (R16, R100). -/
abbrev Group := BitVec 10

/-- A wire bit or another `u1`: `false` is 0 (dominant), `true` is 1 (recessive, idle) (R16). -/
abbrev Bit := Bool

/-- The two time stamps of an operation record: the cycle counter and the millisecond clock of the instant at
which the operation is performed (R15, R115). -/
structure Stamp where
  /-- the free-running CPU cycle counter -/
  now : Word
  /-- the millisecond clock -/
  ms : Word
  deriving DecidableEq, Repr

end Sys2Proof
end

