-- ==== Sys2Proof/Syntax.lean ====
section
/-! DEFINITION. The operations of the block as data: one constructor of `Instr` per row of the operation map
(30_encoding.md R117), each with the operands of its row in order and then its time stamps (R115). Operand types
are those of R116; the two that a Lean type does not bound by itself (`bytes`, `frame`) are bounded in
WellFormed.lean. -/

namespace Sys2Proof

/-- A frame value: a byte sequence and an optional uncertain-bit index (20_memory.md R81, R116). -/
structure Frame where
  /-- the frame's bytes `f[0 .. n-1]` -/
  bytes : List Byte
  /-- the frame bit index (R124) the decoder flagged as low-confidence, if any -/
  uncertain : Option Nat
  deriving DecidableEq, Repr

/-- A caller-supplied predicate (`pred` of R116), as plain data. The first three are the forms the spec's own
notation writes (R120); `caller n` stands for any other total function of the host's: number `n` of an
uninterpreted family (Config.lean). DESIGN CHOICE, log entry 5. -/
inductive Pred where
  /-- `pred:false` -/
  | never
  /-- `pred:true` -/
  | always
  /-- `pred:iden==<v>`: true iff FRAME_IDEN of the frame equals `v` -/
  | idenEq (v : BitVec 12)
  /-- the host's predicate number `n`, about which nothing is assumed -/
  | caller (n : Word)
  deriving DecidableEq, Repr

/-- The operations of 30_encoding.md R117, one constructor per row, in the order of the table. -/
inductive Instr where
  /-- SETUP, op 0x01 -/
  | setup (rxPin txPin capacity : Word) (ts : Stamp)
  /-- ENABLE, op 0x02 -/
  | enable (ts : Stamp)
  /-- DISABLE, op 0x03 -/
  | disable (ts : Stamp)
  /-- AVAILABLE, op 0x04 -/
  | available (ts : Stamp)
  /-- RECEIVE, op 0x05 -/
  | receive (ts : Stamp)
  /-- SET_DROP_POLICY, op 0x06 -/
  | setDropPolicy (threshold : Word) (essential : Pred) (ts : Stamp)
  /-- SEND_PACKET, op 0x07 -/
  | sendPacket (iden : BitVec 12) (flags : BitVec 4) (data : List Byte) (len : Byte) (timeoutMs : Word) (ts : Stamp)
  /-- SYNC_SEND_PACKET, op 0x08 -/
  | syncSendPacket (iden : BitVec 12) (flags : BitVec 4) (data : List Byte) (len : Byte) (timeoutMs : Word) (ts : Stamp)
  /-- GET_COUNT, op 0x09 -/
  | getCount (ts : Stamp)
  /-- QUEUE_SIZE, op 0x0A -/
  | queueSize (ts : Stamp)
  /-- GET_N_QUEUED, op 0x0B -/
  | getNQueued (ts : Stamp)
  /-- GET_MAX_QUEUED, op 0x0C -/
  | getMaxQueued (ts : Stamp)
  /-- DUMP_STATS, op 0x0D -/
  | dumpStats (ts : Stamp)
  /-- CRC, op 0x10 -/
  | crc (f : Frame) (ts : Stamp)
  /-- CHECK_CRC, op 0x11 -/
  | checkCrc (f : Frame) (ts : Stamp)
  /-- REPAIR, op 0x12 -/
  | repair (f : Frame) (interest : Option Pred) (ts : Stamp)
  /-- FRAME_IDEN, op 0x13 -/
  | frameIden (f : Frame) (ts : Stamp)
  /-- FRAME_FLAGS, op 0x14 -/
  | frameFlags (f : Frame) (ts : Stamp)
  /-- FRAME_DATA_LEN, op 0x15 -/
  | frameDataLen (f : Frame) (ts : Stamp)
  /-- FRAME_DATA, op 0x16 -/
  | frameData (f : Frame) (k : Byte) (ts : Stamp)
  /-- MANCH_ENCODE, op 0x20 -/
  | manchEncode (b : Byte) (ts : Stamp)
  /-- MANCH_DECODE, op 0x21 -/
  | manchDecode (g : Group) (ts : Stamp)
  /-- EOD_TEST, op 0x22 -/
  | eodTest (g : Group) (ts : Stamp)
  /-- SOF_MATCH, op 0x23 -/
  | sofMatch (g : Group) (ts : Stamp)
  /-- BIT_TIME_DECODE, op 0x24 -/
  | bitTimeDecode (cycles : Word) (jitterIn : SWord) (ts : Stamp)
  /-- PREPARE_PACKET, op 0x25 -/
  | preparePacket (iden : BitVec 12) (flags : BitVec 4) (data : List Byte) (len : Byte) (ts : Stamp)
  /-- TX_ENQUEUE, op 0x26 -/
  | txEnqueue (iden : BitVec 12) (flags : BitVec 4) (data : List Byte) (len : Byte) (ts : Stamp)
  /-- STUFF_FRAME, op 0x27 -/
  | stuffFrame (f : Frame) (ts : Stamp)
  /-- EV_EDGE, op 0x80 -/
  | evEdge (level : Bit) (ts : Stamp)
  /-- EV_ACK_TIMEOUT, op 0x81 -/
  | evAckTimeout (ts : Stamp)
  /-- EV_TX_TICK, op 0x82 -/
  | evTxTick (sample : Bit) (ts : Stamp)
  deriving DecidableEq, Repr

end Sys2Proof
end

