-- ==== Sys2Proof/WellFormed.lean ====
section
/-! DEFINITION. Which terms of `Instr` are operations: every operand lies in its type's range (30_encoding.md
R116). A value outside its range "cannot be written down: the operation does not exist". Bit-vector operands are in
range by their Lean type; what is left to check is the length of a `bytes` value and the range of an
uncertain-bit index (10_state.md R37: `none` or 0..263). -/

namespace Sys2Proof

/-- A `bytes` value holds 0 to 33 bytes (R116). -/
def bytesOk (bs : List Byte) : Bool := decide (bs.length ≤ 33)

/-- An uncertain-bit index is `none` or a frame bit index 0..263 (R37, R124). -/
def uncertainOk : Option Nat → Bool
  | none => true
  | some i => decide (i < 264)

/-- A `frame` value: its bytes and its uncertain-bit index are in range (R116). -/
def frameOk (f : Frame) : Bool := bytesOk f.bytes && uncertainOk f.uncertain

/-- Every operand of the operation lies in the range of its type (R116). -/
def Instr.wellFormed : Instr → Bool
  | .setup _ _ _ _ => true
  | .enable _ => true
  | .disable _ => true
  | .available _ => true
  | .receive _ => true
  | .setDropPolicy _ _ _ => true
  | .sendPacket _ _ data _ _ _ => bytesOk data
  | .syncSendPacket _ _ data _ _ _ => bytesOk data
  | .getCount _ => true
  | .queueSize _ => true
  | .getNQueued _ => true
  | .getMaxQueued _ => true
  | .dumpStats _ => true
  | .crc f _ => frameOk f
  | .checkCrc f _ => frameOk f
  | .repair f _ _ => frameOk f
  | .frameIden f _ => frameOk f
  | .frameFlags f _ => frameOk f
  | .frameDataLen f _ => frameOk f
  | .frameData f _ _ => frameOk f
  | .manchEncode _ _ => true
  | .manchDecode _ _ => true
  | .eodTest _ _ => true
  | .sofMatch _ _ => true
  | .bitTimeDecode _ _ _ => true
  | .preparePacket _ _ data _ _ => bytesOk data
  | .txEnqueue _ _ data _ _ => bytesOk data
  | .stuffFrame f _ => frameOk f
  | .evEdge _ _ => true
  | .evAckTimeout _ => true
  | .evTxTick _ _ => true

end Sys2Proof
end

