-- ==== Sys2Proof/Decode.lean ====
section
/-! DEFINITION. From bytes to operations and back. The spec fixes the 8-bit operation code, the order and the type of
each operation's operands, and the two time stamps (30_encoding.md R115 to R118, R123); it gives no byte layout for
the operands. The layout here is the model's (DESIGN CHOICE, log entry 1): the op byte, the operands in the order of
R117, then `now`, then `ms`.
  u1, u4, u8    one byte, bits above the type's width 0
  u10, u12      two bytes, the low byte first, bits above the type's width 0
  u32, i32      four bytes, the low byte first
  bytes         a count byte (0 to 33), then the bytes
  frame         the bytes value, then 0 for no uncertain index, or 1 and the index in two bytes
  pred          0 never; 1 always; 2 and a u12; 3 and a u32
  optpred       0 for none; else the pred with its first byte one higher
A record whose code is unassigned (R118), or that holds an operand outside its type (R116), is refused by name. -/

namespace Sys2Proof

/-- Why bytes are not an operation record. -/
inductive DecodeError where
  /-- no byte at all -/
  | noRecord
  /-- the operation code is not assigned (R118) -/
  | unassigned (op : Byte)
  /-- an operand lies outside its type's range (R116) -/
  | operandRange
  /-- the bytes end inside the record -/
  | truncated
  deriving DecidableEq, Repr

/-- A value read from the front of the bytes, and the bytes after it. -/
abbrev Parsed (α : Type) := Except DecodeError (α × List Byte)

/-- Reads a value, then goes on with it and the bytes after it; a failure ends the reading. -/
def andThen {α β : Type} (p : Parsed α) (k : α → List Byte → Parsed β) : Parsed β :=
  match p with
  | .ok (a, bs) => k a bs
  | .error e => .error e

/-- One byte. -/
def getU8 : List Byte → Parsed Byte
  | [] => .error .truncated
  | b :: bs => .ok (b, bs)

/-- A 16-bit value, the low byte first. -/
def getU16 : List Byte → Parsed (BitVec 16)
  | a :: b :: bs => .ok (b ++ a, bs)
  | _ => .error .truncated

/-- A `u32` or `i32`, the low byte first. -/
def getU32 : List Byte → Parsed Word
  | a :: b :: c :: d :: bs => .ok (d ++ c ++ b ++ a, bs)
  | _ => .error .truncated

/-- A `u1`: 0 or 1. -/
def getU1 (bs : List Byte) : Parsed Bit :=
  andThen (getU8 bs) fun b bs =>
  if b = 0 then .ok (false, bs) else if b = 1 then .ok (true, bs) else .error .operandRange

/-- A `u4`. -/
def getU4 (bs : List Byte) : Parsed (BitVec 4) :=
  andThen (getU8 bs) fun b bs =>
  if b.toNat < 16 then .ok (b.setWidth 4, bs) else .error .operandRange

/-- A `u10`. -/
def getU10 (bs : List Byte) : Parsed Group :=
  andThen (getU16 bs) fun v bs =>
  if v.toNat < 1024 then .ok (v.setWidth 10, bs) else .error .operandRange

/-- A `u12`. -/
def getU12 (bs : List Byte) : Parsed (BitVec 12) :=
  andThen (getU16 bs) fun v bs =>
  if v.toNat < 4096 then .ok (v.setWidth 12, bs) else .error .operandRange

/-- `n` bytes. -/
def getMany : Nat → List Byte → Parsed (List Byte)
  | 0, bs => .ok ([], bs)
  | _ + 1, [] => .error .truncated
  | n + 1, b :: bs =>
    andThen (getMany n bs) fun rest bs =>
    .ok (b :: rest, bs)

/-- A `bytes` value: its count, at most 33, then its bytes. -/
def getBytes (bs : List Byte) : Parsed (List Byte) :=
  andThen (getU8 bs) fun n bs =>
  if n.toNat ≤ 33 then getMany n.toNat bs else .error .operandRange

/-- An optional uncertain-bit index: absent, or 0..263. -/
def getUncertain (bs : List Byte) : Parsed (Option Nat) :=
  andThen (getU1 bs) fun present bs =>
  if present then
    andThen (getU16 bs) fun i bs =>
    if i.toNat < 264 then .ok (some i.toNat, bs) else .error .operandRange
  else .ok (none, bs)

/-- A `frame` value. -/
def getFrame (bs : List Byte) : Parsed Frame :=
  andThen (getBytes bs) fun b bs =>
  andThen (getUncertain bs) fun u bs =>
  .ok (⟨b, u⟩, bs)

/-- A predicate after its tag has been read. -/
def getPredBody (tag : Nat) (bs : List Byte) : Parsed Pred :=
  match tag with
  | 0 => .ok (.never, bs)
  | 1 => .ok (.always, bs)
  | 2 =>
    andThen (getU12 bs) fun v bs =>
    .ok (.idenEq v, bs)
  | 3 =>
    andThen (getU32 bs) fun n bs =>
    .ok (.caller n, bs)
  | _ => .error .operandRange

/-- A `pred` value. -/
def getPred (bs : List Byte) : Parsed Pred :=
  andThen (getU8 bs) fun t bs =>
  getPredBody t.toNat bs

/-- An `optpred` value. -/
def getOptPred (bs : List Byte) : Parsed (Option Pred) :=
  andThen (getU8 bs) fun t bs =>
  match t.toNat with
  | 0 => .ok (none, bs)
  | n + 1 =>
    andThen (getPredBody n bs) fun p bs =>
    .ok (some p, bs)

/-- The record's time stamps: `now`, then `ms`. -/
def getStamp (bs : List Byte) : Parsed Stamp :=
  andThen (getU32 bs) fun now bs =>
  andThen (getU32 bs) fun ms bs =>
  .ok (⟨now, ms⟩, bs)

/-- The operands of the operation with code `op`, by its row of R117. -/
def decodeOperands (op : Byte) (bs : List Byte) : Parsed Instr :=
  match op.toNat with
  | 0x01 =>
    andThen (getU32 bs) fun rxPin bs =>
    andThen (getU32 bs) fun txPin bs =>
    andThen (getU32 bs) fun capacity bs =>
    andThen (getStamp bs) fun ts bs =>
    .ok (.setup rxPin txPin capacity ts, bs)
  | 0x02 =>
    andThen (getStamp bs) fun ts bs =>
    .ok (.enable ts, bs)
  | 0x03 =>
    andThen (getStamp bs) fun ts bs =>
    .ok (.disable ts, bs)
  | 0x04 =>
    andThen (getStamp bs) fun ts bs =>
    .ok (.available ts, bs)
  | 0x05 =>
    andThen (getStamp bs) fun ts bs =>
    .ok (.receive ts, bs)
  | 0x06 =>
    andThen (getU32 bs) fun threshold bs =>
    andThen (getPred bs) fun essential bs =>
    andThen (getStamp bs) fun ts bs =>
    .ok (.setDropPolicy threshold essential ts, bs)
  | 0x07 =>
    andThen (getU12 bs) fun iden bs =>
    andThen (getU4 bs) fun flags bs =>
    andThen (getBytes bs) fun data bs =>
    andThen (getU8 bs) fun len bs =>
    andThen (getU32 bs) fun timeoutMs bs =>
    andThen (getStamp bs) fun ts bs =>
    .ok (.sendPacket iden flags data len timeoutMs ts, bs)
  | 0x08 =>
    andThen (getU12 bs) fun iden bs =>
    andThen (getU4 bs) fun flags bs =>
    andThen (getBytes bs) fun data bs =>
    andThen (getU8 bs) fun len bs =>
    andThen (getU32 bs) fun timeoutMs bs =>
    andThen (getStamp bs) fun ts bs =>
    .ok (.syncSendPacket iden flags data len timeoutMs ts, bs)
  | 0x09 =>
    andThen (getStamp bs) fun ts bs =>
    .ok (.getCount ts, bs)
  | 0x0A =>
    andThen (getStamp bs) fun ts bs =>
    .ok (.queueSize ts, bs)
  | 0x0B =>
    andThen (getStamp bs) fun ts bs =>
    .ok (.getNQueued ts, bs)
  | 0x0C =>
    andThen (getStamp bs) fun ts bs =>
    .ok (.getMaxQueued ts, bs)
  | 0x0D =>
    andThen (getStamp bs) fun ts bs =>
    .ok (.dumpStats ts, bs)
  | 0x10 =>
    andThen (getFrame bs) fun f bs =>
    andThen (getStamp bs) fun ts bs =>
    .ok (.crc f ts, bs)
  | 0x11 =>
    andThen (getFrame bs) fun f bs =>
    andThen (getStamp bs) fun ts bs =>
    .ok (.checkCrc f ts, bs)
  | 0x12 =>
    andThen (getFrame bs) fun f bs =>
    andThen (getOptPred bs) fun interest bs =>
    andThen (getStamp bs) fun ts bs =>
    .ok (.repair f interest ts, bs)
  | 0x13 =>
    andThen (getFrame bs) fun f bs =>
    andThen (getStamp bs) fun ts bs =>
    .ok (.frameIden f ts, bs)
  | 0x14 =>
    andThen (getFrame bs) fun f bs =>
    andThen (getStamp bs) fun ts bs =>
    .ok (.frameFlags f ts, bs)
  | 0x15 =>
    andThen (getFrame bs) fun f bs =>
    andThen (getStamp bs) fun ts bs =>
    .ok (.frameDataLen f ts, bs)
  | 0x16 =>
    andThen (getFrame bs) fun f bs =>
    andThen (getU8 bs) fun k bs =>
    andThen (getStamp bs) fun ts bs =>
    .ok (.frameData f k ts, bs)
  | 0x20 =>
    andThen (getU8 bs) fun b bs =>
    andThen (getStamp bs) fun ts bs =>
    .ok (.manchEncode b ts, bs)
  | 0x21 =>
    andThen (getU10 bs) fun g bs =>
    andThen (getStamp bs) fun ts bs =>
    .ok (.manchDecode g ts, bs)
  | 0x22 =>
    andThen (getU10 bs) fun g bs =>
    andThen (getStamp bs) fun ts bs =>
    .ok (.eodTest g ts, bs)
  | 0x23 =>
    andThen (getU10 bs) fun g bs =>
    andThen (getStamp bs) fun ts bs =>
    .ok (.sofMatch g ts, bs)
  | 0x24 =>
    andThen (getU32 bs) fun cycles bs =>
    andThen (getU32 bs) fun jitterIn bs =>
    andThen (getStamp bs) fun ts bs =>
    .ok (.bitTimeDecode cycles jitterIn ts, bs)
  | 0x25 =>
    andThen (getU12 bs) fun iden bs =>
    andThen (getU4 bs) fun flags bs =>
    andThen (getBytes bs) fun data bs =>
    andThen (getU8 bs) fun len bs =>
    andThen (getStamp bs) fun ts bs =>
    .ok (.preparePacket iden flags data len ts, bs)
  | 0x26 =>
    andThen (getU12 bs) fun iden bs =>
    andThen (getU4 bs) fun flags bs =>
    andThen (getBytes bs) fun data bs =>
    andThen (getU8 bs) fun len bs =>
    andThen (getStamp bs) fun ts bs =>
    .ok (.txEnqueue iden flags data len ts, bs)
  | 0x27 =>
    andThen (getFrame bs) fun f bs =>
    andThen (getStamp bs) fun ts bs =>
    .ok (.stuffFrame f ts, bs)
  | 0x80 =>
    andThen (getU1 bs) fun level bs =>
    andThen (getStamp bs) fun ts bs =>
    .ok (.evEdge level ts, bs)
  | 0x81 =>
    andThen (getStamp bs) fun ts bs =>
    .ok (.evAckTimeout ts, bs)
  | 0x82 =>
    andThen (getU1 bs) fun sample bs =>
    andThen (getStamp bs) fun ts bs =>
    .ok (.evTxTick sample ts, bs)
  | _ => .error (.unassigned op)

/-- The first operation record of the bytes and the bytes after it. The operation is selected by its code alone
(R115). -/
def decode : List Byte → Parsed Instr
  | [] => .error .noRecord
  | op :: bs => decodeOperands op bs

/-! ### The encoder -/

/-- The operation code of an operation (R117). -/
def Instr.op : Instr → Byte
  | .setup _ _ _ _ => 0x01
  | .enable _ => 0x02
  | .disable _ => 0x03
  | .available _ => 0x04
  | .receive _ => 0x05
  | .setDropPolicy _ _ _ => 0x06
  | .sendPacket _ _ _ _ _ _ => 0x07
  | .syncSendPacket _ _ _ _ _ _ => 0x08
  | .getCount _ => 0x09
  | .queueSize _ => 0x0A
  | .getNQueued _ => 0x0B
  | .getMaxQueued _ => 0x0C
  | .dumpStats _ => 0x0D
  | .crc _ _ => 0x10
  | .checkCrc _ _ => 0x11
  | .repair _ _ _ => 0x12
  | .frameIden _ _ => 0x13
  | .frameFlags _ _ => 0x14
  | .frameDataLen _ _ => 0x15
  | .frameData _ _ _ => 0x16
  | .manchEncode _ _ => 0x20
  | .manchDecode _ _ => 0x21
  | .eodTest _ _ => 0x22
  | .sofMatch _ _ => 0x23
  | .bitTimeDecode _ _ _ => 0x24
  | .preparePacket _ _ _ _ _ => 0x25
  | .txEnqueue _ _ _ _ _ => 0x26
  | .stuffFrame _ _ => 0x27
  | .evEdge _ _ => 0x80
  | .evAckTimeout _ => 0x81
  | .evTxTick _ _ => 0x82

/-- The time stamps of an operation (R115). -/
def Instr.stamp : Instr → Stamp
  | .setup _ _ _ ts => ts
  | .enable ts => ts
  | .disable ts => ts
  | .available ts => ts
  | .receive ts => ts
  | .setDropPolicy _ _ ts => ts
  | .sendPacket _ _ _ _ _ ts => ts
  | .syncSendPacket _ _ _ _ _ ts => ts
  | .getCount ts => ts
  | .queueSize ts => ts
  | .getNQueued ts => ts
  | .getMaxQueued ts => ts
  | .dumpStats ts => ts
  | .crc _ ts => ts
  | .checkCrc _ ts => ts
  | .repair _ _ ts => ts
  | .frameIden _ ts => ts
  | .frameFlags _ ts => ts
  | .frameDataLen _ ts => ts
  | .frameData _ _ ts => ts
  | .manchEncode _ ts => ts
  | .manchDecode _ ts => ts
  | .eodTest _ ts => ts
  | .sofMatch _ ts => ts
  | .bitTimeDecode _ _ ts => ts
  | .preparePacket _ _ _ _ ts => ts
  | .txEnqueue _ _ _ _ ts => ts
  | .stuffFrame _ ts => ts
  | .evEdge _ ts => ts
  | .evAckTimeout ts => ts
  | .evTxTick _ ts => ts

/-- `op[7] = 1` marks a hardware event, `op[7] = 0` a host command (R115). -/
def Instr.isEvent (i : Instr) : Bool := i.op.getLsbD 7

/-- A `u8`. -/
def putU8 (b : Byte) : List Byte := [b]

/-- A 16-bit value, the low byte first. -/
def putU16 (v : BitVec 16) : List Byte := [v.extractLsb' 0 8, v.extractLsb' 8 8]

/-- A `u32` or `i32`, the low byte first. -/
def putU32 (v : Word) : List Byte :=
  [v.extractLsb' 0 8, v.extractLsb' 8 8, v.extractLsb' 16 8, v.extractLsb' 24 8]

/-- A `u1`. -/
def putU1 (b : Bit) : List Byte := [if b then 1 else 0]

/-- A `u4`. -/
def putU4 (v : BitVec 4) : List Byte := [v.setWidth 8]

/-- A `u10`. -/
def putU10 (v : Group) : List Byte := putU16 (v.setWidth 16)

/-- A `u12`. -/
def putU12 (v : BitVec 12) : List Byte := putU16 (v.setWidth 16)

/-- A `bytes` value. -/
def putBytes (bs : List Byte) : List Byte := BitVec.ofNat 8 bs.length :: bs

/-- An optional uncertain-bit index. -/
def putUncertain : Option Nat → List Byte
  | none => putU1 false
  | some i => putU1 true ++ putU16 (BitVec.ofNat 16 i)

/-- A `frame` value. -/
def putFrame (f : Frame) : List Byte := putBytes f.bytes ++ putUncertain f.uncertain

/-- A predicate, its tag raised by `k`. -/
def putPredFrom (k : Byte) : Pred → List Byte
  | .never => [k]
  | .always => [k + 1]
  | .idenEq v => (k + 2) :: putU12 v
  | .caller n => (k + 3) :: putU32 n

/-- A `pred` value. -/
def putPred (p : Pred) : List Byte := putPredFrom 0 p

/-- An `optpred` value. -/
def putOptPred : Option Pred → List Byte
  | none => [0]
  | some p => putPredFrom 1 p

/-- The time stamps. -/
def putStamp (ts : Stamp) : List Byte := putU32 ts.now ++ putU32 ts.ms

/-- The operand bytes of an operation, without its code and stamps. -/
def Instr.operandBytes : Instr → List Byte
  | .setup rxPin txPin capacity _ => putU32 rxPin ++ putU32 txPin ++ putU32 capacity
  | .enable _ => []
  | .disable _ => []
  | .available _ => []
  | .receive _ => []
  | .setDropPolicy threshold essential _ => putU32 threshold ++ putPred essential
  | .sendPacket iden flags data len timeoutMs _ => putU12 iden ++ putU4 flags ++ putBytes data ++ putU8 len ++ putU32 timeoutMs
  | .syncSendPacket iden flags data len timeoutMs _ => putU12 iden ++ putU4 flags ++ putBytes data ++ putU8 len ++ putU32 timeoutMs
  | .getCount _ => []
  | .queueSize _ => []
  | .getNQueued _ => []
  | .getMaxQueued _ => []
  | .dumpStats _ => []
  | .crc f _ => putFrame f
  | .checkCrc f _ => putFrame f
  | .repair f interest _ => putFrame f ++ putOptPred interest
  | .frameIden f _ => putFrame f
  | .frameFlags f _ => putFrame f
  | .frameDataLen f _ => putFrame f
  | .frameData f k _ => putFrame f ++ putU8 k
  | .manchEncode b _ => putU8 b
  | .manchDecode g _ => putU10 g
  | .eodTest g _ => putU10 g
  | .sofMatch g _ => putU10 g
  | .bitTimeDecode cycles jitterIn _ => putU32 cycles ++ putU32 jitterIn
  | .preparePacket iden flags data len _ => putU12 iden ++ putU4 flags ++ putBytes data ++ putU8 len
  | .txEnqueue iden flags data len _ => putU12 iden ++ putU4 flags ++ putBytes data ++ putU8 len
  | .stuffFrame f _ => putFrame f
  | .evEdge level _ => putU1 level
  | .evAckTimeout _ => []
  | .evTxTick sample _ => putU1 sample

/-- The record of an operation: its code, its operands, its time stamps (R115). -/
def encode (i : Instr) : List Byte := i.op :: (i.operandBytes ++ putStamp i.stamp)

/-! ### Words of the opcode table -/

/-- The first `n` bytes of a number whose bit 0 is the least significant bit of the first byte. -/
def bytesOfNat : Nat → Nat → List Byte
  | 0, _ => []
  | n + 1, w => BitVec.ofNat 8 w :: bytesOfNat n (w / 256)

/-- The longest record is shorter than this many bytes (`encode_length_le` in Laws/Decode.lean). -/
def maxRecord : Nat := 64

/-- An instruction of the opcode table as bytes: the table's bits, then zeros up to the longest record. -/
def tableBytes (nbits w : Nat) : List Byte := bytesOfNat (nbits / 8) w ++ List.replicate maxRecord 0

/-- The instruction the decoder reads from an instruction whose bits are `w`. -/
def decodeTableWord (nbits w : Nat) : Option Instr :=
  match decode (tableBytes nbits w) with
  | .ok (i, _) => some i
  | .error _ => none

end Sys2Proof
end

