-- ==== Sys2Proof/Machine/Slot.lean ====
section
/-! DEFINITION. The types of one frame slot of each pool, and of what a command answers (10_state.md R37 to R40, R45,
R46, R53; 44_rx_queue.md R265, R271). Plain data; the operations over them are in Ops.lean. -/

namespace Sys2Proof.Machine

/-- The bytes of one frame buffer, as (byte index, byte) cells in canonical form: indices strictly rising, and no
cell that holds 0, which is what an unlisted byte reads as (R37: bytes with index `>= size` are 0; R56). -/
abbrev Memory := List Host.Cell

/-- Where a receive slot is in its life (R38). -/
inductive RxState where
  /-- empty: waits for a frame -/
  | vacant
  /-- accumulates the first group -/
  | searching
  /-- holds SOF and accumulates further groups -/
  | loading
  /-- holds a frame that met its EOD -/
  | waitingAck
  /-- holds a completed frame -/
  | done
  deriving DecidableEq, Repr

/-- Terminal decode outcome of a frame (R39). -/
inductive RxResult where
  /-- completed through WAITING_ACK; says nothing of the CRC -/
  | ok
  /-- a run of more than 10 bits in mid-frame -/
  | errorNBits
  /-- a 34th group -/
  | errorMaxPacket
  deriving DecidableEq, Repr

/-- Whether a responder pulled the bus dominant during the ACK field (R40). -/
inductive Ack where
  | noAck
  | ack
  deriving DecidableEq, Repr

/-- One receive slot (R37). -/
structure RxSlot where
  state : RxState
  /-- `bytes[0..32]`: the frame as received -/
  bytes : Memory
  /-- count of valid bytes, 0..33 -/
  size : Nat
  result : RxResult
  ack : Ack
  seqNo : Word
  timestamp : Word
  /-- frame bit index flagged as low-confidence: `none` or 0..263 -/
  uncertain : Option Nat
  deriving DecidableEq, Repr

/-- Where a transmit slot is in its life (R46). -/
inductive TxState where
  /-- queued or deferred -/
  | waiting
  /-- on the wire -/
  | sending
  /-- free -/
  | done
  deriving DecidableEq, Repr

/-- One transmit slot (R45). -/
structure TxSlot where
  state : TxState
  /-- `bytes[0..32]`: the unstuffed frame -/
  bytes : Memory
  /-- number of frame bytes -/
  size : Nat
  /-- `txBits[0..339]`: the stuffed bit stream, first on the wire first -/
  txBits : List Bit
  nTxBits : Nat
  /-- number of bits driven so far in the current attempt -/
  bitIndex : Nat
  collisions : Word
  /-- bit position of this frame's first collision -/
  firstCollisionPos : Option Nat
  bitErrors : Word
  /-- ticks on which carrier sense deferred this frame -/
  busOccupied : Word
  deriving DecidableEq, Repr

/-- RX statistics counters (R49). -/
structure RxStats where
  /-- frames completed so far; the next `seqNo` -/
  rxCount : Word
  /-- frames discarded by the drop policy -/
  rxDropped : Word
  /-- unread frames destroyed by an overrun -/
  rxOverwritten : Word
  /-- the largest `nQueued` seen after a completion -/
  maxQueued : Word
  deriving DecidableEq, Repr

/-- TX statistics counters (R50). -/
structure TxStats where
  /-- frames that completed after exactly one collision -/
  txSingleCollisions : Word
  /-- frames that completed after more than one collision -/
  txMultipleCollisions : Word
  /-- submissions that failed because the queue stayed full until the timeout -/
  txDropped : Word
  /-- ticks on which carrier sense deferred -/
  txBusOccupied : Word
  /-- bit errors seen -/
  txBitErrors : Word
  /-- frames that reached DONE -/
  txSent : Word
  deriving DecidableEq, Repr

/-- CRC repair counters (R51). -/
structure RepairStats where
  /-- frames handed to REPAIR whose CRC failed -/
  nCorrupt : Word
  /-- frames REPAIR made CRC-valid -/
  nRepaired : Word
  /-- repairs by a single flip of the sweep -/
  nOneBit : Word
  /-- repairs by a pair of neighbouring bits -/
  nTwoConsecutive : Word
  /-- repairs by a pair of boundary bits -/
  nTwoSeparate : Word
  /-- repairs by the uncertain bit -/
  nUncertain : Word
  deriving DecidableEq, Repr

/-- The frame record RECEIVE hands out (R265). -/
structure FrameRecord where
  bytes : List Byte
  size : Nat
  result : RxResult
  ack : Ack
  seqNo : Word
  timestamp : Word
  uncertain : Option Nat
  deriving DecidableEq, Repr

/-- The counter record of DUMP_STATS, in the order of R271. -/
structure StatsRecord where
  rxCount : Word
  rxDropped : Word
  rxOverwritten : Word
  maxQueued : Word
  nQueued : Word
  txSent : Word
  txSingleCollisions : Word
  txMultipleCollisions : Word
  txDropped : Word
  txBusOccupied : Word
  txBitErrors : Word
  nCorrupt : Word
  nRepaired : Word
  nOneBit : Word
  nTwoConsecutive : Word
  nTwoSeparate : Word
  nUncertain : Word
  deriving DecidableEq, Repr

/-- What the last host command answered (the result column of 30_encoding.md R117). The model's own register: the
spec hands a result to the host and gives it no place (log entry 11). -/
inductive Result where
  /-- no command has answered yet, or the command answers nothing -/
  | none
  /-- a blocking send is under way (R53) -/
  | pending
  | u1 (b : Bit)
  | u4 (v : BitVec 4)
  | u8 (v : Byte)
  | u10 (v : Group)
  | u12 (v : BitVec 12)
  | u16 (v : BitVec 16)
  | u32 (v : Word)
  /-- RECEIVE: ok, the frame record, the overrun bit -/
  | received (ok : Bit) (record : FrameRecord) (overrun : Bit)
  /-- DUMP_STATS -/
  | stats (record : StatsRecord)
  /-- REPAIR: ok, the frame -/
  | repaired (ok : Bit) (f : Frame)
  /-- BIT_TIME_DECODE: nBits, jitterOut -/
  | bitTime (nBits : Word) (jitterOut : SWord)
  /-- PREPARE_PACKET: ok, the frame's bytes, the bit stream -/
  | prepared (ok : Bit) (f : List Byte) (s : List Bit)
  /-- STUFF_FRAME -/
  | stream (s : List Bit)
  deriving DecidableEq, Repr

/-- Which blocking send is under way. -/
inductive SendKind where
  /-- SEND_PACKET: enqueue and return -/
  | async
  /-- SYNC_SEND_PACKET: wait until transmitted -/
  | sync
  deriving DecidableEq, Repr

/-- What a blocking send waits for (R53). -/
inductive SendPhase where
  /-- a free TX slot -/
  | waitSlot
  /-- the enqueued frame to be DONE -/
  | waitDone
  deriving DecidableEq, Repr

/-- The host's in-flight command record of a blocking send (R53): the command with its operands, and `sendStartMs`,
`sendTimeoutMs`, `sendPhase`, `sendSlot`. `nextPollMs` is the instant of the next pass of its loop (log entry 9).
`sendSlot` gets its value with the enqueue (45_tx.md R304); while the phase is WAIT_SLOT it is 0 and no operation reads it
(DESIGN CHOICE, log entry 28). -/
structure Send where
  kind : SendKind
  iden : BitVec 12
  flags : BitVec 4
  data : List Byte
  len : Byte
  sendStartMs : Word
  sendTimeoutMs : Word
  sendPhase : SendPhase
  sendSlot : Nat
  nextPollMs : Word
  deriving DecidableEq, Repr

end Sys2Proof.Machine
end

