-- ==== Sys2Proof/Config.lean ====
section
/-! DEFINITION. What an implementation fixes. Three kinds of thing:
- the sizes the source settles (00_scope.md R9), as constants;
- the parameters the spec leaves to the build or the caller (R10 to R12), as the plain record `Params`. A state
  carries one (`State.params`) that no step writes, so a statement about every state is about every build; the
  reference values the spec names are in Machine/Reference.lean and stand in `State.reset`;
- what stays free: the caller-supplied predicates (R43, R116), and which of two moves of one instant comes first, as
  uninterpreted constants. -/

namespace Sys2Proof.Config

open Sys2Proof.Machine (RxState RxSlot)

/-- Bytes a frame holds at most (R9). -/
abbrev maxFrame : Nat := 33

/-- Data bytes a frame holds at most (R9). -/
abbrev maxData : Nat := 28

/-- Transmitted bits of one byte (R9). -/
abbrev groupBits : Nat := 10

/-- Bytes loaded before an EOD marker counts (R9). -/
abbrev minEodSize : Nat := 5

/-- Longest legal run of equal bits for the decoder (R9). -/
abbrev maxRunBits : Nat := 10

/-- The SOF byte (R9). -/
abbrev sofByte : Byte := 0x0E

/-- The SOF byte's group (R9). -/
abbrev sofRaw : Group := 0x03D

/-- The CRC generator with its top term implicit (R9). -/
abbrev crcPoly : BitVec 15 := 0x0F9D

/-- The CRC register's seed (R9). -/
abbrev crcInit : BitVec 15 := 0x7FFF

/-- The CRC register after a valid frame (R9). -/
abbrev crcResidue : BitVec 15 := 0x19B7

/-- Recessive bits after the EOD marker: 2 ACK and 8 EOF (R9). -/
abbrev txTrailerBits : Nat := 10

/-- Bit-times of EOF (R9). -/
abbrev eofBits : Nat := 8

/-- The least RX queue capacity SETUP accepts (R10, D16). -/
abbrev qMin : Nat := 2

/-- An exact number of cycles, not always whole: `num / den`. A half bit-time at an odd `T`, or a bound scaled by a clock
multiplier (40_bit_time_decoder.md R142, R148), is kept as it is. The operations are in Machine/Reference.lean. -/
structure Cycles where
  num : Int
  den : Nat
  deriving DecidableEq, Repr

/-- One band of a BAND_TABLE (40_bit_time_decoder.md R146). Bands are contiguous, so a band begins where the one
before it ends; the first has no lower bound, as the reference zero band (log entry 13). -/
structure Band where
  /-- `hi_k`: the bound every `e` of the band lies below -/
  hi : Cycles
  /-- `n_k`: the band's bit count -/
  n : Nat
  /-- `x_k`: the band's exact multiple -/
  x : Int
  deriving DecidableEq, Repr

/-- One entry of a RUN_CORRECTIONS table: `(state, atBitOffset, measuredBits) → correction` (R11), with the run's
level, which the reference rule also reads (42_rx_decoder.md R188). -/
structure RunCorrection where
  state : RxState
  level : Bit
  atBitOffset : Nat
  measuredBits : Nat
  /-- the corrected number of bits -/
  bits : Nat
  /-- the jitter carry seeded for the next interval -/
  jitter : Int
  deriving DecidableEq, Repr

/-- The parameters of a build (R10 to R12). -/
structure Params where
  /-- `T`: cycles per bit-time, a whole number of any size (log entry 27) -/
  t : Nat
  /-- `Q_MAX`: the largest RX capacity SETUP accepts -/
  qMax : Nat
  /-- `TXQ`: TX queue capacity in slots -/
  txQ : Nat
  /-- `POLL_MS`: milliseconds between two passes of a blocking send -/
  pollMs : Nat
  /-- `ACK_TIMEOUT`: the ACK-wait delay in cycles -/
  ackTimeout : Nat
  /-- `ACK_MIN`: the shortest interval before an ACK pulse -/
  ackMin : Cycles
  /-- `ACK_MAX`: the least interval too long for an ACK pulse -/
  ackMax : Cycles
  /-- `IFS_BITS`: the inter-frame space in bit-times -/
  ifsBits : Nat
  /-- `SOF_ACCEPT`: groups accepted as SOF -/
  sofAccept : List Group
  /-- `EOD_ACCEPT`: terminal 2-bit patterns accepted as EOD -/
  eodAccept : List (BitVec 2)
  /-- `BAND_TABLE` -/
  bandTable : List Band
  /-- `RUN_CORRECTIONS` -/
  runCorrections : List RunCorrection
  deriving DecidableEq, Repr

/-- The host's `isEssential` predicate number `n`, evaluated on a completed slot (R43: a total function from an
RxSlot's contents to a bit). Nothing is known of it: a free value (log entry 5). -/
opaque callerEssential (n : Word) (slot : RxSlot) : Bool

/-- The host's interest predicate number `n`, evaluated on a frame (R116: a total function from a frame to `u1`).
Nothing is known of it: a free value (log entry 5). -/
opaque callerInterest (n : Word) (f : Frame) : Bool

/-- Of an event of instant `ms` and a pass of a blocking send that is due at the same `ms`, whether the pass comes first:
"the environment chooses where" (60_exceptions.md R364 item 3; 45_tx.md R303). `waitDone` is the pass's phase,
`placed` the number of bytes placed for the block, and `timerDue` whether an ACK timeout still comes before the event, so
that no two choices of a run have the same arguments. Nothing is known of it: a free value (log entry 9). -/
opaque passBeforeEvent (ms : Word) (waitDone : Bool) (placed : Nat) (timerDue : Bool) : Bool

end Sys2Proof.Config
end

