-- ==== Sys2Proof/Machine/Reference.lean ====
section
/-! DEFINITION. The reference values of the open parameters (00_scope.md R10 to R12; 92_eei_decisions.md D4 to D9,
D13, D24, D26, D43 to D47), as functions of the bit-time `T`, and the clock scaling of 40_bit_time_decoder.md R148. -/

namespace Sys2Proof.Machine

open Sys2Proof.Config

/-! ### Exact cycle counts -/

/-- `v < c`. -/
def isBelow (v : Int) (c : Cycles) : Bool := decide (v * c.den < c.num)

/-- The first whole number of cycles at or after `c`. -/
def wholeCycles (c : Cycles) : Nat := ((c.num + c.den - 1) / c.den).toNat

/-- `n / 2` cycles, exactly. -/
def halfCycles (n : Nat) : Cycles := { num := n, den := 2 }

/-- `c` multiplied by `num / den`. -/
def scaleCycles (num den : Nat) (c : Cycles) : Cycles := { num := num * c.num, den := den * c.den }

/-! ### The reference tables -/

/-- The upper bound of reference band `k`: the `e` of the band have `2e < (2k+1)*T` (R142). -/
def halfBitBound (t k : Nat) : Cycles := halfCycles ((2 * k + 1) * t)

/-- The reference BAND_TABLE: the zero band (`2e < T`) and the counting bands 1..10, band `k` holding the `e` with
`(2k-1)*T <= 2e < (2k+1)*T`, its bit count `k` and its exact multiple `k*T` (R142). -/
def referenceBands (t : Nat) : List Band :=
  (List.range 11).map fun k => { hi := halfBitBound t k, n := k, x := (k * t : Nat) }

/-- A run of `n` bits that begins at offset `o` of a group covers a check position other than by beginning at it
(42_rx_decoder.md R188). -/
def illegalRun (o n : Nat) : Bool :=
  (List.range n).any fun k => decide (1 ≤ k) && (decide ((o + k) % 10 = 4) || decide ((o + k) % 10 = 9))

/-- The 5 dominant bits a legitimate EOD group can end with (R188). -/
def eodForm (st : RxState) (v : Bit) (o n : Nat) : Bool :=
  decide (st = .loading) && !v && decide (o = 5) && decide (n = 5)

/-- The reference rule for a swallowed check bit: whether a run is shortened by one bit (R188). -/
def swallowedCheckBit (st : RxState) (v : Bit) (o n : Nat) : Bool :=
  (decide (n = 5) || decide (n = 10)) && illegalRun o n && !eodForm st v o n

/-- The reference RUN_CORRECTIONS for run length `n`: each entry of the predicate takes one bit from the run and
seeds `-T` (R188). -/
def referenceCorrectionsOf (t n : Nat) (st : RxState) (v : Bit) : List RunCorrection :=
  ((List.range 10).filter fun o => swallowedCheckBit st v o n).map fun o =>
    { state := st, level := v, atBitOffset := o, measuredBits := n, bits := n - 1, jitter := -(t : Int) }

/-- The reference RUN_CORRECTIONS table: the predicate of R188 written out over the two states that run it, both
levels, the offsets 0..9 of a group and the lengths 5 and 10 (log entry 14). -/
def referenceCorrections (t : Nat) : List RunCorrection :=
  [RxState.searching, RxState.loading].flatMap fun st => [false, true].flatMap fun v =>
    [5, 10].flatMap fun n => referenceCorrectionsOf t n st v

/-- The reference SOF_ACCEPT: `0x03D` and the ten groups at Hamming distance 1 from it (30_encoding.md R113, D8). -/
def referenceSofAccept : List Group :=
  sofRaw :: (List.range 10).map fun k => sofRaw ^^^ BitVec.ofNat 10 (2 ^ k)

/-- The reference EOD_ACCEPT (R104, D9). -/
def referenceEodAccept : List (BitVec 2) := [0b00]

/-- The reference parameters at bit-time `T`: `ACK_MIN = T/2` and `ACK_MAX = 3T/2` exactly, `ACK_TIMEOUT = 5T/2`
(at an odd `T` the next whole cycle: DESIGN CHOICE, log entry 29),
`IFS_BITS = 4` (R12), `TXQ = 4`, `POLL_MS = 1`. `Q_MAX` is OPEN (D43); 256 is the model's choice (log entry 4). -/
def paramsAt (t : Nat) : Params where
  t := t
  qMax := 256
  txQ := 4
  pollMs := 1
  ackTimeout := wholeCycles (halfCycles (5 * t))
  ackMin := halfCycles t
  ackMax := halfCycles (3 * t)
  ifsBits := 4
  sofAccept := referenceSofAccept
  eodAccept := referenceEodAccept
  bandTable := referenceBands t
  runCorrections := referenceCorrections t

/-- The reference parameters: `T = 640` (R12). -/
def referenceParams : Params := paramsAt 640

/-- One band scaled by `num / den`: its bound exactly, its multiple to a whole cycle (R148; log entry 29). -/
def scaleBand (num den : Nat) (b : Band) : Band :=
  { b with hi := scaleCycles num den b.hi, x := num * b.x / den }

/-- Clock scaling (40_bit_time_decoder.md R148): a CPU clock `F = num / den` times the reference multiplies `T` and every
band bound by `F`. With them go the build's other cycle counts. Where a product is no whole number of cycles, of which the
rule says nothing, `T`, the multiples and the seeds are rounded down and the timeout up (DESIGN CHOICE, log entry 29). -/
def scaleClock (num den : Nat) (p : Params) : Params :=
  { p with
    t := num * p.t / den
    ackTimeout := wholeCycles { num := num * p.ackTimeout, den := den }
    ackMin := scaleCycles num den p.ackMin
    ackMax := scaleCycles num den p.ackMax
    bandTable := p.bandTable.map (scaleBand num den)
    runCorrections := p.runCorrections.map fun r => { r with jitter := num * r.jitter / den } }

end Sys2Proof.Machine
end

