-- ==== Sys2Proof/Machine/State.lean ====
section
/-! DEFINITION. The state of the machine: every field of 10_state.md, the host's in-flight send (R53), and three
fields of the model's own (`params`, `input`, `result`). Then the reasons a step can stop, and the power-on state. -/

namespace Sys2Proof.Machine

open Sys2Proof.Config (Params)

/-- The machine's state. -/
structure State where
  /-- the build's parameters (00_scope.md R10 to R12); no step writes them (the model's own field, log entry 4) -/
  params : Params
  /-- operation records the environment has placed and the block has not performed yet, the first at the front (the
  model's own field, log entry 2) -/
  input : List Byte
  /-- what the last host command answered (the model's own field, log entry 11) -/
  result : Result
  /-- the blocking send under way, if any (R53) -/
  send : Option Send
  -- Configuration (R33)
  configured : Bit
  /-- `Q`: RX queue capacity in slots -/
  q : Word
  rxPin : Word
  txPin : Word
  -- Event-source enables (R34)
  rxHostEnabled : Bit
  rxTxSuspended : Bit
  txTimerEnabled : Bit
  -- Receive decoder (R35)
  /-- `now` of the last delivered EV_EDGE -/
  prevEdgeTime : Word
  /-- the bit accumulator; bit 0 is the most recently received wire bit -/
  readBits : BitVec 20
  /-- accumulated bits not yet taken as a group -/
  nBits : Nat
  /-- the jitter carry, signed -/
  jitter : SWord
  -- ACK one-shot timer (R36)
  ackArmed : Bit
  ackDeadline : Word
  -- Receive pool and queue (R37, R41)
  rxSlots : List RxSlot
  /-- the slot the decoder is filling -/
  head : Nat
  /-- the next slot the consumer will read -/
  tail : Nat
  overrun : Bit
  -- Drop policy (R43)
  dropEnabled : Bit
  dropThreshold : Word
  isEssential : Pred
  -- Media access tracker (R44)
  lastBusActivity : Word
  -- Transmit pool and queue (R45, R47)
  txSlots : List TxSlot
  txHead : Nat
  txTail : Nat
  -- TX pin (R48)
  txPinLevel : Bit
  -- Statistics (R49, R50, R51)
  rxStats : RxStats
  txStats : TxStats
  repairStats : RepairStats
  deriving DecidableEq, Repr

/-- Why the machine stops. The spec has no fault: "the engine never halts on a bad frame" (60_exceptions.md R350).
These two stand for what its rules call unreachable. -/
inductive Fault where
  /-- an operation names a slot that its pool does not have. Raised by every operation that reads a slot. 20_memory.md
  R84 says such an index cannot be formed, and no state that the rules reach raises it. Safe. -/
  | slotOutOfRange
  /-- an edge is delivered while the slot at `head` is DONE, which 42_rx_decoder.md R180 and R195 call unreachable.
  Raised by EV_EDGE. Safe. -/
  | edgeIntoDoneSlot
  deriving DecidableEq, Repr

/-- Why the machine has no meaning for what it was given. -/
inductive Refusal where
  /-- the instruction has no meaning in this model yet. Raised by `exec`. Safe. -/
  | notModelled (mnemonic : String)
  /-- the record's operation code is unassigned (30_encoding.md R118): refused at decode, the state unchanged. Raised
  by `step`. Safe: it is what the spec says. -/
  | unassignedOperation (op : Byte)
  /-- the record holds an operand outside its type (R116; 60_exceptions.md R361): refused before any step. Raised by
  `step`. Safe: it is what the spec says. -/
  | operandOutOfRange
  /-- the bytes placed for the block end inside a record, so that they are no record (R123). Raised by `step`.
  Safe. -/
  | truncatedRecord
  deriving DecidableEq, Repr

/-- The three outcomes of a step of this machine. -/
abbrev Out := Host.Outcome State Fault Refusal

/-- The power-on state (70_reset_and_hazards.md R390): unconfigured, no pool allocated, every enable off, the TX pin
released. Each field that R55 marks *unspecified* is 0 here (DESIGN CHOICE, log entry 3); the parameters have their
reference values (log entry 4). -/
def State.reset : State where
  params := referenceParams
  input := []
  result := .none
  send := none
  configured := false
  q := 0
  rxPin := 0
  txPin := 0
  rxHostEnabled := false
  rxTxSuspended := false
  txTimerEnabled := false
  prevEdgeTime := 0
  readBits := 0
  nBits := 0
  jitter := 0
  ackArmed := false
  ackDeadline := 0
  rxSlots := []
  head := 0
  tail := 0
  overrun := false
  dropEnabled := false
  dropThreshold := 0
  isEssential := .never
  lastBusActivity := 0
  txSlots := []
  txHead := 0
  txTail := 0
  txPinLevel := true
  rxStats := ⟨0, 0, 0, 0⟩
  txStats := ⟨0, 0, 0, 0, 0, 0⟩
  repairStats := ⟨0, 0, 0, 0, 0, 0⟩

end Sys2Proof.Machine
end

