-- ==== Sys2Proof/Machine/Ops.lean ====
section
/-! DEFINITION. The shared operations: time differences, frame buffers, slots and pools, the decoder reset, the TX
pin, the answer of a command, and the delivery of an event.

The block takes no exception and has no interrupt entry in the usual sense: "Nothing is saved and no mode changes,
because the block has no program counter and no privilege state" (60_exceptions.md R365). What stands in its place is
`deliver`: an event whose source is enabled runs its handler as one atomic step, and an event whose source is off
does not reach the block (R362). Its end is the end of the handler (R366). -/

namespace Sys2Proof.Machine

open Sys2Proof.Config

/-! ### Time (00_scope.md R15) -/

/-- `elapsed(a, b) = (b - a) mod 2^32` (R15). -/
def elapsed (a b : Word) : Word := b - a

/-- The instant `b` is at or after the instant `a`: `elapsed(a, b) < 2^31` (R15, D3; 10_state.md R36). -/
def atOrAfter (a b : Word) : Bool := decide ((elapsed a b).toNat < 2 ^ 31)

/-! ### Frame buffers (20_memory.md R80; the primitives MemRead and MemWrite of 00_scope.md R17) -/

/-- Byte `a` of a frame buffer. A byte no cell lists is 0 (10_state.md R37, R56). -/
def readByte : Memory → Nat → Byte
  | [], _ => 0
  | (b, w) :: m, a => if b = a then w else readByte m a

/-- The frame buffer with byte `a` set to `v`, in canonical form again. -/
def writeByte : Memory → Nat → Byte → Memory
  | [], a, v => if v = 0 then [] else [(a, v)]
  | (b, w) :: m, a, v =>
    if a < b then (if v = 0 then (b, w) :: m else (a, v) :: (b, w) :: m)
    else if a = b then (if v = 0 then m else (a, v) :: m)
    else (b, w) :: writeByte m a v

/-- The cells of `bs` stored from byte `k` on, in canonical form. -/
def cellsFrom : Nat → List Byte → Memory
  | _, [] => []
  | k, b :: bs => if b = 0 then cellsFrom (k + 1) bs else (k, b) :: cellsFrom (k + 1) bs

/-- A frame buffer that holds the bytes `bs` and 0 beyond them. -/
def bufferOf (bs : List Byte) : Memory := cellsFrom 0 bs

/-- Bytes `0 .. n-1` of a frame buffer. -/
def readBytes (m : Memory) (n : Nat) : List Byte := (List.range n).map (readByte m)

/-- Every cell lists a byte other than 0, at an index above `lo` and below `hi`, and indices rise strictly. -/
def cellsWf : Memory → (lo hi : Nat) → Bool
  | [], _, _ => true
  | (a, v) :: m, lo, hi => decide (lo ≤ a) && decide (a < hi) && decide (v ≠ 0) && cellsWf m (a + 1) hi

/-- The canonical form of a frame buffer of which at most the first `n` bytes are not 0. -/
def memoryWf (m : Memory) (n : Nat) : Bool := cellsWf m 0 n

/-! ### Slots -/

/-- A reinitialised receive slot (10_state.md R56). -/
def vacantSlot : RxSlot where
  state := .vacant
  bytes := []
  size := 0
  result := .ok
  ack := .noAck
  seqNo := 0
  timestamp := 0
  uncertain := none

/-- A transmit slot after SETUP: state DONE, every other field 0 or none (R55). -/
def freeSlot : TxSlot where
  state := .done
  bytes := []
  size := 0
  txBits := []
  nTxBits := 0
  bitIndex := 0
  collisions := 0
  firstCollisionPos := none
  bitErrors := 0
  busOccupied := 0

/-- The frame in a receive slot: its valid bytes and its uncertain index. -/
def slotFrame (slot : RxSlot) : Frame := ⟨readBytes slot.bytes slot.size, slot.uncertain⟩

/-- The frame record of a receive slot (44_rx_queue.md R265). -/
def slotRecord (slot : RxSlot) : FrameRecord where
  bytes := readBytes slot.bytes slot.size
  size := slot.size
  result := slot.result
  ack := slot.ack
  seqNo := slot.seqNo
  timestamp := slot.timestamp
  uncertain := slot.uncertain

/-- The "empty record" of a failed RECEIVE: the spec names it and not its fields, which are here those of a reinitialised
slot (44_rx_queue.md R265; DESIGN CHOICE, log entry 30). -/
def emptyRecord : FrameRecord := slotRecord vacantSlot

/-- `RxSlot[i] <- slot`. -/
def State.putRx (s : State) (i : Nat) (slot : RxSlot) : State := { s with rxSlots := s.rxSlots.set i slot }

/-- `TxSlot[i] <- slot`. -/
def State.putTx (s : State) (i : Nat) (slot : TxSlot) : State := { s with txSlots := s.txSlots.set i slot }

/-- The two data spaces of the block (20_memory.md R80). -/
inductive Pool where
  | rx
  | tx
  deriving DecidableEq, Repr

/-- Byte `k` of frame buffer `i` of a pool: one byte of `MemRead(pool, i, k, n)` (00_scope.md R17, 20_memory.md R80).
A buffer that is not there reads as 0. -/
def State.memByte (s : State) (pool : Pool) (i k : Nat) : Byte :=
  match pool with
  | .rx => match s.rxSlots[i]? with
    | none => 0
    | some slot => readByte slot.bytes k
  | .tx => match s.txSlots[i]? with
    | none => 0
    | some slot => readByte slot.bytes k

/-- The number of DONE slots of a pool. -/
def doneCount (slots : List RxSlot) : Nat := slots.countP fun slot => decide (slot.state = .done)

/-- `nQueued`: the number of slots that hold an unread frame (10_state.md R42). -/
def State.nQueued (s : State) : Nat := doneCount s.rxSlots

/-! ### Registers -/

/-- `resetDecoder()`: an empty accumulator and no jitter carry (42_rx_decoder.md R182). -/
def State.resetDecoder (s : State) : State := { s with readBits := 0, nBits := 0, jitter := 0 }

/-- `drive(level)`: the wire level the block puts on the TX pin (00_scope.md R17, 10_state.md R48). -/
def State.drive (s : State) (level : Bit) : State := { s with txPinLevel := level }

/-- The command answers `r` to the host (`return v` of 00_scope.md R17). -/
def State.answer (s : State) (r : Result) : State := { s with result := r }

/-! ### Events -/

/-- An event reaches its handler iff its source is enabled; otherwise it is lost and nothing changes
(60_exceptions.md R362, R365; 10_state.md R34; log entry 6). -/
def deliver (enabled : Bool) (handler : State → Out) (s : State) : Out := if enabled then handler s else .next s

/-- EV_EDGE is delivered iff `configured = 1`, `rxHostEnabled = 1` and `rxTxSuspended = 0` (10_state.md R34). -/
def edgeEnabled (s : State) : Bool := s.configured && s.rxHostEnabled && !s.rxTxSuspended

/-- EV_TX_TICK is delivered iff `configured = 1` and `txTimerEnabled = 1` (10_state.md R34). -/
def tickEnabled (s : State) : Bool := s.configured && s.txTimerEnabled

/-- The ACK one-shot timer is pending and has run out at `now` (10_state.md R36; 60_exceptions.md R362). -/
def ackDue (s : State) (now : Word) : Bool := s.ackArmed && atOrAfter s.ackDeadline now

end Sys2Proof.Machine
end

