-- ==== Sys2Proof/Machine/BitTime.lean ====
section
/-! DEFINITION. The BitTimeDecoder and BIT_TIME_DECODE (40_bit_time_decoder.md R140 to R149). -/

namespace Sys2Proof.Machine

open Sys2Proof.Config

/-- What the BitTimeDecoder gives for an interval: a bit count and the jitter carry-out. -/
structure BitCount where
  n : Nat
  jitter : Int
  deriving DecidableEq, Repr

/-- The effective interval `e = zext(cycles) - jitterIn`, an exact integer (R141). -/
def effectiveInterval (cycles : Word) (jitterIn : SWord) : Int := (cycles.toNat : Int) - jitterIn.toInt

/-- The band that holds `e`; none above the last (R146). -/
def bandOf (bands : List Band) (e : Int) : Option Band := bands.find? fun b => isBelow e b.hi

/-- The fallback above the last band: the linear estimate `(2e + T) div (2T)` (R145). -/
def fallbackCount (t : Nat) (e : Int) : Nat := ((2 * e + t) / (2 * t)).toNat

/-- The number of bit-times an interval represents, and the carry for the next (R143 to R146). -/
def bitCount (p : Params) (cycles : Word) (jitterIn : SWord) : BitCount :=
  let e := effectiveInterval cycles jitterIn
  match bandOf p.bandTable e with
  | none => { n := fallbackCount p.t e, jitter := 0 }
  | some b =>
    if b.n = 0 then { n := 0, jitter := jitterIn.toInt - cycles.toNat }
    else { n := b.n, jitter := if b.x < e then e - b.x else 0 }

/-- BIT_TIME_DECODE (op 0x24, R147): pure; answers `nBits` and `jitterOut`. -/
def execBitTimeDecode (cycles : Word) (jitterIn : SWord) (s : State) : Out :=
  let r := bitCount s.params cycles jitterIn
  .next (s.answer (.bitTime (BitVec.ofNat 32 r.n) (BitVec.ofInt 32 r.jitter)))

end Sys2Proof.Machine
end

