-- ==== Sys2Proof/Machine/Flags.lean ====
section
/-! DEFINITION. The status flags and counters of the block (10_state.md R49 to R52), and the conditions they record
(60_exceptions.md R350, R351). There are no arithmetic condition codes. -/

namespace Sys2Proof.Machine

open Sys2Proof.Config

/-! ### Receive side -/

/-- An unread frame was destroyed: the sticky flag and its counter (R52; 42_rx_decoder.md R198). -/
def State.noteOverrun (s : State) : State :=
  { s with overrun := true, rxStats := { s.rxStats with rxOverwritten := s.rxStats.rxOverwritten + 1 } }

/-- A frame was discarded by the drop policy (R49; 42_rx_decoder.md R197). -/
def State.noteDropped (s : State) : State :=
  { s with rxStats := { s.rxStats with rxDropped := s.rxStats.rxDropped + 1 } }

/-- A frame completed: the next sequence number is taken (R49; 42_rx_decoder.md R196). -/
def State.noteCompleted (s : State) : State :=
  { s with rxStats := { s.rxStats with rxCount := s.rxStats.rxCount + 1 } }

/-- `maxQueued <- max(maxQueued, nQueued)` (42_rx_decoder.md R198, D40). -/
def State.noteQueued (s : State) : State :=
  { s with rxStats := { s.rxStats with
      maxQueued := if s.rxStats.maxQueued.toNat < s.nQueued then BitVec.ofNat 32 s.nQueued else s.rxStats.maxQueued } }

/-! ### Transmit side -/

/-- Carrier sense deferred the frame (45_tx.md R307). -/
def TxSlot.noteDeferred (t : TxSlot) : TxSlot := { t with busOccupied := t.busOccupied + 1 }

/-- A collision at bit `k`; the position of the first is kept (45_tx.md R310). -/
def TxSlot.noteCollision (t : TxSlot) (k : Nat) : TxSlot :=
  { t with
    collisions := t.collisions + 1
    firstCollisionPos := match t.firstCollisionPos with | none => some k | some j => some j }

/-- A bit error (45_tx.md R311). -/
def TxSlot.noteBitError (t : TxSlot) : TxSlot := { t with bitErrors := t.bitErrors + 1 }

/-- The engine's count of a deferral (R307). -/
def State.noteBusOccupied (s : State) : State :=
  { s with txStats := { s.txStats with txBusOccupied := s.txStats.txBusOccupied + 1 } }

/-- The engine's count of a bit error (R311). -/
def State.noteBitError (s : State) : State :=
  { s with txStats := { s.txStats with txBitErrors := s.txStats.txBitErrors + 1 } }

/-- A submission failed because the queue stayed full until its timeout (R303, R360). -/
def State.noteTxDropped (s : State) : State :=
  { s with txStats := { s.txStats with txDropped := s.txStats.txDropped + 1 } }

/-- A frame was sent after `collisions` collisions (45_tx.md R314, R315). -/
def State.noteSent (s : State) (collisions : Word) : State :=
  { s with txStats := { s.txStats with
      txSingleCollisions := if collisions = 1 then s.txStats.txSingleCollisions + 1 else s.txStats.txSingleCollisions
      txMultipleCollisions :=
        if 1 < collisions.toNat then s.txStats.txMultipleCollisions + 1 else s.txStats.txMultipleCollisions
      txSent := s.txStats.txSent + 1 } }

/-! ### Repair -/

/-- How REPAIR made a frame valid (43_crc_codec.md R241). -/
inductive RepairMethod where
  | uncertain
  | one
  | twoConsecutive
  | twoSeparate
  deriving DecidableEq, Repr

/-- A frame handed to REPAIR had a failing CRC (R51, R236). -/
def State.noteCorrupt (s : State) : State :=
  { s with repairStats := { s.repairStats with nCorrupt := s.repairStats.nCorrupt + 1 } }

/-- A counted repair: `nRepaired` and exactly one method counter (R241). -/
def State.noteRepaired (s : State) (m : RepairMethod) : State :=
  { s with repairStats := { s.repairStats with
      nRepaired := s.repairStats.nRepaired + 1
      nOneBit := if m = .one then s.repairStats.nOneBit + 1 else s.repairStats.nOneBit
      nTwoConsecutive :=
        if m = .twoConsecutive then s.repairStats.nTwoConsecutive + 1 else s.repairStats.nTwoConsecutive
      nTwoSeparate := if m = .twoSeparate then s.repairStats.nTwoSeparate + 1 else s.repairStats.nTwoSeparate
      nUncertain := if m = .uncertain then s.repairStats.nUncertain + 1 else s.repairStats.nUncertain } }

/-! ### Conditions (60_exceptions.md R351) and enumeration codes (30_encoding.md R122) -/

/-- Every condition of the block. All are recorded as data; none transfers control (R350). -/
inductive Condition where
  | nBits
  | maxPacket
  | noAck
  | crcMismatch
  | crcUnrepairable
  | overrun
  | drop
  | collision
  | bitError
  | busOccupied
  | txQueueFull
  | notConfigured
  | setupRejected
  | sofRejectedOrFalseStart
  | illegalOperation
  deriving DecidableEq, Repr

/-- The spec's condition codes; 0 means no condition (R351). -/
def conditionCode : Option Condition → Nat
  | none => 0
  | some .nBits => 1
  | some .maxPacket => 2
  | some .noAck => 3
  | some .crcMismatch => 4
  | some .crcUnrepairable => 5
  | some .overrun => 6
  | some .drop => 7
  | some .collision => 8
  | some .bitError => 9
  | some .busOccupied => 10
  | some .txQueueFull => 11
  | some .notConfigured => 12
  | some .setupRejected => 13
  | some .sofRejectedOrFalseStart => 14
  | some .illegalOperation => 15

/-- RxState as a number (R122). -/
def rxStateCode : RxState → Nat
  | .vacant => 0
  | .searching => 1
  | .loading => 2
  | .waitingAck => 3
  | .done => 4

/-- RxResult as a number (R122). -/
def rxResultCode : RxResult → Nat
  | .ok => 0
  | .errorNBits => 1
  | .errorMaxPacket => 2

/-- Ack as a number (R122). -/
def ackCode : Ack → Nat
  | .noAck => 0
  | .ack => 1

/-- TxState as a number (R122). -/
def txStateCode : TxState → Nat
  | .waiting => 0
  | .sending => 1
  | .done => 2

/-- The condition a completed frame carries in its `result` (R351 to R353). -/
def resultCondition : RxResult → Option Condition
  | .ok => none
  | .errorNBits => some .nBits
  | .errorMaxPacket => some .maxPacket

end Sys2Proof.Machine
end

