-- ==== Sys2Proof/Machine/Operands.lean ====
section
/-! DEFINITION. Operand forms: bytes of a frame value, frame bit indices and their raw stream positions, and
caller-supplied predicates (30_encoding.md R116, R124; 41_frame_codec.md R165 to R168). -/

namespace Sys2Proof.Machine

open Sys2Proof.Config

/-! ### Bytes of a frame value -/

/-- `B(k)`: byte `k` of a frame value, 0 beyond its end (41_frame_codec.md R165). -/
def frameByte (bs : List Byte) (k : Nat) : Byte := bs.getD k 0

/-- The 12-bit identifier `{B(1), B(2)[7:4]}` (30_encoding.md R107, 41_frame_codec.md R165). -/
def frameIdenOf (bs : List Byte) : BitVec 12 := frameByte bs 1 ++ (frameByte bs 2).extractLsb' 4 4

/-- The COM field `B(2)[3:0]` (R107, R166). -/
def frameFlagsOf (bs : List Byte) : BitVec 4 := (frameByte bs 2).extractLsb' 0 4

/-- The number of payload bytes (R167). -/
def frameDataLenOf (bs : List Byte) : Nat := if 5 ≤ bs.length then bs.length - 5 else 0

/-- Payload byte `k`, 0 at or beyond the payload's end (R168). -/
def frameDataOf (bs : List Byte) (k : Nat) : Byte := if k < frameDataLenOf bs then frameByte bs (3 + k) else 0

/-! ### COM bits (30_encoding.md R108) -/

/-- `flags[3]`, the bit a well-formed frame has 1. -/
def comTop (flags : BitVec 4) : Bit := flags.getLsbD 3

/-- RAK, "ack requested": `flags[2]`. -/
def comRak (flags : BitVec 4) : Bit := flags.getLsbD 2

/-- R/W: `flags[1]`. -/
def comRw (flags : BitVec 4) : Bit := flags.getLsbD 1

/-- RTR: `flags[0]`. -/
def comRtr (flags : BitVec 4) : Bit := flags.getLsbD 0

/-! ### Bit indices (30_encoding.md R124) -/

/-- The raw stream position of frame bit `i`. -/
def rawPos (i : Nat) : Nat := 10 * (i / 8) + i % 8 + (if 4 ≤ i % 8 then 1 else 0)

/-- The frame bit at raw position `p`; a check bit has none. -/
def bitOf (p : Nat) : Option Nat :=
  if p % 10 < 4 then some (8 * (p / 10) + p % 10)
  else if 5 ≤ p % 10 ∧ p % 10 ≤ 8 then some (8 * (p / 10) + p % 10 - 1)
  else none

/-- Frame bit `i`: bit `7 - (i mod 8)` of byte `i div 8`. -/
def frameBit (bs : List Byte) (i : Nat) : Bit := (frameByte bs (i / 8)).getLsbD (7 - i % 8)

/-! ### Predicates -/

/-- The value of a `pred` on a frame (R116, R120). -/
def predOnFrame (p : Pred) (f : Frame) : Bit :=
  match p with
  | .never => false
  | .always => true
  | .idenEq v => decide (frameIdenOf f.bytes = v)
  | .caller n => callerInterest n f

/-- The value of an `optpred` on a frame: an absent predicate holds of every frame (43_crc_codec.md R241). -/
def optPredOnFrame (p : Option Pred) (f : Frame) : Bit :=
  match p with
  | none => true
  | some p => predOnFrame p f

/-- The value of `isEssential` on a completed slot (10_state.md R43, 42_rx_decoder.md R197). -/
def predOnSlot (p : Pred) (slot : RxSlot) : Bit :=
  match p with
  | .never => false
  | .always => true
  | .idenEq v => decide (frameIdenOf (readBytes slot.bytes slot.size) = v)
  | .caller n => callerEssential n slot

end Sys2Proof.Machine
end

