-- ==== Sys2Proof/Machine/FrameCodec.lean ====
section
/-! DEFINITION. The FrameCodec: stuffing and unstuffing, the EOD and SOF tests, the transmit stream and the frame
accessors (41_frame_codec.md R160 to R168; 30_encoding.md R100 to R114). Every operation here is pure: it changes
nothing but the answer, and works before SETUP (D39). -/

namespace Sys2Proof.Machine

open Sys2Proof.Config

/-- `enc(b) = {b[7:4], ~b[4], b[3:0], ~b[0]}` (30_encoding.md R101). -/
def encGroup (b : Byte) : Group :=
  b.extractLsb' 4 4 ++ (~~~(b.extractLsb' 4 1)) ++ b.extractLsb' 0 4 ++ (~~~(b.extractLsb' 0 1))

/-- `dec(g) = {g[9:6], g[4:1]}`; the check bits are discarded untested (R102). -/
def decGroup (g : Group) : Byte := g.extractLsb' 6 4 ++ g.extractLsb' 1 4

/-- A group is well-formed iff `g[5] = ~g[6]` and `g[0] = ~g[1]` (R103). -/
def groupWellFormed (g : Group) : Bool := (g.getLsbD 5 == !g.getLsbD 6) && (g.getLsbD 0 == !g.getLsbD 1)

/-- `eodGroup(b)`: the last group of a frame, its bits [1:0] forced to the EOD marker 00 (R104). -/
def eodGroup (b : Byte) : Group := encGroup b &&& 0x3FC

/-- Whether a group carries the EOD marker: `g[1:0] ∈ EOD_ACCEPT` (R104, R162). -/
def isEod (p : Params) (g : Group) : Bool := p.eodAccept.contains (g.extractLsb' 0 2)

/-- A group has a check violation iff it is neither well-formed nor an EOD group `g[0] = g[1] = 0` (R103). -/
def checkViolation (g : Group) : Bool := !groupWellFormed g && !(!g.getLsbD 0 && !g.getLsbD 1)

/-- Whether a first group is accepted as SOF: `g ∈ SOF_ACCEPT` (R113, R163). -/
def isSof (p : Params) (g : Group) : Bool := p.sofAccept.contains g

/-- `bits_msb_first(g, 10) = [g[9], ..., g[0]]` (R164). -/
def groupBitsOf (g : Group) : List Bit := [9, 8, 7, 6, 5, 4, 3, 2, 1, 0].map g.getLsbD

/-- The groups of a frame on the wire: each byte stuffed, the last with the EOD marker forced (R110, R164). -/
def stuffGroups : List Byte → List Group
  | [] => []
  | [b] => [eodGroup b]
  | b :: c :: bs => encGroup b :: stuffGroups (c :: bs)

/-- The stuffed bits `0 .. 10n-1` of a frame, without the trailer (R164). -/
def stuffBits (bs : List Byte) : List Bit := (stuffGroups bs).flatMap groupBitsOf

/-- The transmit stream of a frame: its stuffed bits and 10 recessive bits; empty for no byte (R164). -/
def stuffStream (bs : List Byte) : List Bit :=
  if bs = [] then [] else stuffBits bs ++ List.replicate txTrailerBits true

/-- MANCH_ENCODE (op 0x20, R160). -/
def execManchEncode (b : Byte) (s : State) : Out := .next (s.answer (.u10 (encGroup b)))

/-- MANCH_DECODE (op 0x21, R161). -/
def execManchDecode (g : Group) (s : State) : Out := .next (s.answer (.u8 (decGroup g)))

/-- EOD_TEST (op 0x22, R162). -/
def execEodTest (g : Group) (s : State) : Out := .next (s.answer (.u1 (isEod s.params g)))

/-- SOF_MATCH (op 0x23, R163). -/
def execSofMatch (g : Group) (s : State) : Out := .next (s.answer (.u1 (isSof s.params g)))

/-- STUFF_FRAME (op 0x27, R164); the uncertain index is ignored. -/
def execStuffFrame (f : Frame) (s : State) : Out := .next (s.answer (.stream (stuffStream f.bytes)))

/-- FRAME_IDEN (op 0x13, R165). -/
def execFrameIden (f : Frame) (s : State) : Out := .next (s.answer (.u12 (frameIdenOf f.bytes)))

/-- FRAME_FLAGS (op 0x14, R166). -/
def execFrameFlags (f : Frame) (s : State) : Out := .next (s.answer (.u4 (frameFlagsOf f.bytes)))

/-- FRAME_DATA_LEN (op 0x15, R167). -/
def execFrameDataLen (f : Frame) (s : State) : Out := .next (s.answer (.u8 (BitVec.ofNat 8 (frameDataLenOf f.bytes))))

/-- FRAME_DATA (op 0x16, R168). -/
def execFrameData (f : Frame) (k : Byte) (s : State) : Out := .next (s.answer (.u8 (frameDataOf f.bytes k.toNat)))

end Sys2Proof.Machine
end

