-- ==== Sys2Proof/Machine/RxDecoder.lean ====
section
/-! DEFINITION. The RxDecoderStateMachine: EV_EDGE, EV_ACK_TIMEOUT and frame completion (42_rx_decoder.md R180 to
R202). The steps below take the slot at `head` as `slot` and write it back when they end. -/

namespace Sys2Proof.Machine

open Sys2Proof.Config

/-! ### Completion -/

/-- The number of slots other than `head` in state DONE (R197). -/
def othersDone (s : State) : Nat := doneCount (s.rxSlots.eraseIdx s.head)

/-- `dropTest(s)`: the policy is on, more than the threshold of other frames are unread, and the completed slot's
frame is not essential (R197). -/
def dropTest (slot : RxSlot) (s : State) : Bool :=
  s.dropEnabled && decide (s.dropThreshold.toNat < othersDone s) && !predOnSlot s.isEssential slot

/-- `dropFrame(s)`: count it and reinitialise the slot; `head` does not move (R197). -/
def dropFrame (s : State) : State := s.noteDropped.putRx s.head vacantSlot

/-- The ACK timer is cancelled (R193, R194, R196). -/
def cancelTimer (s : State) : State := { s with ackArmed := false }

/-- `head <- (head + 1) mod Q` (R198). -/
def moveHead (s : State) : State := { s with head := (s.head + 1) % s.q.toNat }

/-- The unread frame in the slot `head` moved to is lost, and the slot reinitialised (R198). -/
def overwriteHead (s : State) : State := s.noteOverrun.putRx s.head vacantSlot

/-- The slot `head` moved to is cleared of an unread frame if it holds one (R198). -/
def clearHead (slot : RxSlot) (s : State) : State := if slot.state = .vacant then s else overwriteHead s

/-- `advanceHead()`: the next slot, made free, and the high-water mark (R198). -/
def advanceHead (s : State) : Out :=
  let s := moveHead s
  match s.rxSlots[s.head]? with
  | none => .fault .slotOutOfRange
  | some slot => .next (clearHead slot s).noteQueued

/-- The completed slot (R196). -/
def completedSlot (result : RxResult) (ms : Word) (slot : RxSlot) (s : State) : RxSlot :=
  { slot with result := result, state := .done, seqNo := s.rxStats.rxCount, timestamp := ms }

/-- The state in which a completion decides between drop and queue: the slot written, the sequence number taken, the
timer cancelled and the decoder reset (R196). -/
def completedState (result : RxResult) (ms : Word) (slot : RxSlot) (s : State) : State :=
  (cancelTimer s.noteCompleted).resetDecoder.putRx s.head (completedSlot result ms slot s)

/-- `complete(result)` (R196). -/
def complete (result : RxResult) (ms : Word) (slot : RxSlot) (s : State) : Out :=
  let s' := completedState result ms slot s
  if dropTest (completedSlot result ms slot s) s' then .next (dropFrame s') else advanceHead s'

/-! ### VACANT and SEARCHING -/

/-- `vacantEdge(level)`: a dominant edge starts a search (R183). -/
def vacantEdge (level : Bit) (slot : RxSlot) (s : State) : State :=
  if level then s else s.resetDecoder.putRx s.head { slot with state := .searching }

/-- The search ends and the slot is VACANT again: a false start (R186) or a rejected SOF (R187). -/
def endSearch (slot : RxSlot) (s : State) : State := s.resetDecoder.putRx s.head { slot with state := .vacant }

/-- `sofGroup(s, g)`: an accepted group is recorded as the SOF byte (R187). -/
def sofGroup (g : Group) (slot : RxSlot) (s : State) : State :=
  if isSof s.params g then
    s.putRx s.head { slot with bytes := writeByte slot.bytes 0 sofByte, size := 1, state := .loading }
  else endSearch slot s

/-! ### LOADING -/

/-- `enterWaitAck(s, now)`: the frame met its EOD; the ACK timer is armed (R192). -/
def enterWaitAck (now : Word) (slot : RxSlot) (s : State) : State :=
  { s with ackArmed := true, ackDeadline := now + BitVec.ofNat 32 s.params.ackTimeout }.putRx s.head
    { slot with state := .waitingAck }

/-- The slot with the byte of group `g` stored at its end (R191). -/
def storeGroup (g : Group) (slot : RxSlot) : RxSlot :=
  { slot with bytes := writeByte slot.bytes slot.size (decGroup g), size := slot.size + 1 }

/-- `loadGroup(s, g)`: the 34th group is an error; any other is stored, and an EOD group at 5 bytes or more ends the
data (R191, R192). -/
def loadGroup (g : Group) (ts : Stamp) (slot : RxSlot) (s : State) : Out :=
  if maxFrame ≤ slot.size then complete .errorMaxPacket ts.ms slot s
  else
    let slot := storeGroup g slot
    if isEod s.params g && decide (minEodSize ≤ slot.size) then .next (enterWaitAck ts.now slot s)
    else .next (s.putRx s.head slot)

/-! ### Runs and groups -/

/-- The RUN_CORRECTIONS entry for a run of `n` bits of level `v` at offset `o` (R188). -/
def findCorrection (p : Params) (st : RxState) (v : Bit) (o n : Nat) : Option RunCorrection :=
  p.runCorrections.find? fun r =>
    decide (r.state = st) && decide (r.level = v) && decide (r.atBitOffset = o) && decide (r.measuredBits = n)

/-- The raw position a correction flags: that of the run's last bit, moved off a check bit (R189). -/
def uncertainPos (size o n : Nat) : Nat :=
  let p := 10 * size + o + n - 1
  if p % 10 = 4 ∨ p % 10 = 9 then p - 1 else p

/-- `markUncertain(s, o, n')`: the first correction in LOADING flags a frame bit (R189). -/
def markUncertain (o n : Nat) (slot : RxSlot) : RxSlot :=
  match slot.uncertain with
  | some _ => slot
  | none =>
    match bitOf (uncertainPos slot.size o n) with
    | none => slot
    | some i => if i < 8 * maxFrame then { slot with uncertain := some i } else slot

/-- A run after the correction step: its bits, the carry for the next interval, and the slot (R188). -/
structure FixedRun where
  n : Nat
  jitter : Int
  slot : RxSlot
  deriving DecidableEq, Repr

/-- `correct(s, v, o, n, j)` (R188, R189). -/
def correctRun (p : Params) (v : Bit) (o : Nat) (r : BitCount) (slot : RxSlot) : FixedRun :=
  match findCorrection p slot.state v o r.n with
  | none => { n := r.n, jitter := r.jitter, slot := slot }
  | some c =>
    { n := c.bits, jitter := c.jitter, slot := if slot.state = .loading then markUncertain o c.bits slot else slot }

/-- The run's bits appended to the accumulator, and the carry kept (R184). -/
def appendRun (v : Bit) (n : Nat) (jitter : Int) (s : State) : State :=
  { s with
    jitter := BitVec.ofInt 32 jitter
    readBits := (s.readBits <<< n) ||| (if v then BitVec.ofNat 20 (2 ^ n - 1) else 0)
    nBits := s.nBits + n }

/-- The 10 oldest accumulated bits (R185). -/
def oldestGroup (s : State) : Group := (s.readBits >>> (s.nBits - 10)).setWidth 10

/-- The accumulator without its 10 oldest bits (R185). -/
def dropGroup (s : State) : State :=
  { s with nBits := s.nBits - 10, readBits := s.readBits &&& BitVec.ofNat 20 (2 ^ (s.nBits - 10) - 1) }

/-- `takeGroup(s)`: the oldest group goes to the SOF test or to the frame (R185). -/
def takeGroup (ts : Stamp) (slot : RxSlot) (s : State) : Out :=
  if slot.state = .searching then .next (sofGroup (oldestGroup s) slot (dropGroup s))
  else loadGroup (oldestGroup s) ts slot (dropGroup s)

/-- A run of legal length: corrected, appended, and its group taken if one is complete (R184). -/
def acceptRun (v : Bit) (r : BitCount) (ts : Stamp) (slot : RxSlot) (s : State) : Out :=
  let f := correctRun s.params v s.nBits r slot
  let s := appendRun v f.n f.jitter s
  if groupBits ≤ s.nBits then takeGroup ts f.slot s else .next (s.putRx s.head f.slot)

/-- `runStep(s, level, c)`: the edge ends a run of level `1 - level` (R184, R186, R190). -/
def runStep (level : Bit) (c : Word) (ts : Stamp) (slot : RxSlot) (s : State) : Out :=
  let r := bitCount s.params c s.jitter
  if maxRunBits < r.n then
    if slot.state = .searching then .next (endSearch slot s) else complete .errorNBits ts.ms slot s
  else acceptRun (!level) r ts slot s

/-! ### WAITING_ACK -/

/-- The interval `c` and the level are those of an ACK pulse (R193). -/
def isAckPulse (p : Params) (level : Bit) (c : Word) : Bool :=
  !level && !isBelow c.toNat p.ackMin && isBelow c.toNat p.ackMax

/-- `ackEdge(s, level, c)`: an ACK pulse completes the frame; any other edge goes on loading (R193). -/
def ackEdge (level : Bit) (c : Word) (ts : Stamp) (slot : RxSlot) (s : State) : Out :=
  let s := cancelTimer s
  if isAckPulse s.params level c then complete .ok ts.ms { slot with ack := .ack } s
  else runStep level c ts { slot with state := .loading } s

/-! ### The two events -/

/-- The edge prologue, in every state (R181). -/
def edgePrologue (level : Bit) (now : Word) (s : State) : State :=
  { s with prevEdgeTime := now, lastBusActivity := if level then now else s.lastBusActivity }

/-- The edge handler (R180): `c` is the interval since the last delivered edge. -/
def edgeHandler (level : Bit) (ts : Stamp) (s : State) : Out :=
  let c := elapsed s.prevEdgeTime ts.now
  let s := edgePrologue level ts.now s
  match s.rxSlots[s.head]? with
  | none => .fault .slotOutOfRange
  | some slot =>
    match slot.state with
    | .vacant => .next (vacantEdge level slot s)
    | .searching => runStep level c ts slot s
    | .loading => runStep level c ts slot s
    | .waitingAck => ackEdge level c ts slot s
    | .done => .fault .edgeIntoDoneSlot

/-- The ACK timer's handler (R194). -/
def ackTimeoutHandler (ts : Stamp) (s : State) : Out :=
  let s := cancelTimer s
  match s.rxSlots[s.head]? with
  | none => .fault .slotOutOfRange
  | some slot => if slot.state = .waitingAck then complete .ok ts.ms { slot with ack := .noAck } s else .next s

/-- EV_EDGE (op 0x80, R180). -/
def execEvEdge (level : Bit) (ts : Stamp) (s : State) : Out := deliver (edgeEnabled s) (edgeHandler level ts) s

/-- EV_ACK_TIMEOUT (op 0x81, R194). -/
def execEvAckTimeout (ts : Stamp) (s : State) : Out := deliver (ackDue s ts.now) (ackTimeoutHandler ts) s

end Sys2Proof.Machine
end

