-- ==== Sys2Proof/Machine/CrcCodec.lean ====
section
/-! DEFINITION. The CrcCodec: the CRC-15 register, CRC, CHECK_CRC, and the bounded repair search
(43_crc_codec.md R230 to R243). -/

namespace Sys2Proof.Machine

open Sys2Proof.Config

/-! ### The CRC register -/

/-- One data bit into the CRC register (R230). -/
def crcStep (crc : BitVec 15) (bit : Bit) : BitVec 15 :=
  (crc <<< 1) ^^^ (if crc.getLsbD 14 ^^ bit then crcPoly else 0)

/-- One byte into the CRC register, bit 7 first (R230). -/
def crcByte (crc : BitVec 15) (b : Byte) : BitVec 15 :=
  [7, 6, 5, 4, 3, 2, 1, 0].foldl (fun c k => crcStep c (b.getLsbD k)) crc

/-- `crcBytes(bs)`: the register after all bytes, from the seed 0x7FFF (R230). -/
def crcBytes (bs : List Byte) : BitVec 15 := bs.foldl crcByte crcInit

/-- The CRC field of a frame: over `f[1 .. n-3]`, inverted, shifted left by one (R231). -/
def crcField (bs : List Byte) : BitVec 16 := (~~~(crcBytes ((bs.take (bs.length - 2)).drop 1))).setWidth 16 <<< 1

/-- Whether the register over `f[1 .. n-1]` ends at the residue (R232). -/
def crcValid (bs : List Byte) : Bool := decide (crcBytes (bs.drop 1) = crcResidue)

/-! ### The repair search -/

/-- `flip(f, i)`: frame bit `i` complemented (R234). -/
def flipBit (bs : List Byte) (i : Nat) : List Byte :=
  bs.modify (i / 8) fun b => b ^^^ BitVec.ofNat 8 (2 ^ (7 - i % 8))

/-- The frame bit indices the search uses: `8 .. 8n-1` (R234). -/
def searchBits (n : Nat) : List Nat := List.range' 8 (8 * n - 8)

/-- Frame bit `i` is a boundary bit: its raw position has a neighbour of the other value in the raw stream `r`
(R235). -/
def isBoundary (r : List Bit) (i : Nat) : Bool :=
  (decide (0 < rawPos i) && (r.getD (rawPos i - 1) false != r.getD (rawPos i) false)) ||
    (decide (rawPos i + 1 < r.length) && (r.getD (rawPos i + 1) false != r.getD (rawPos i) false))

/-- The boundary bits of a frame, ascending (R235, R236). -/
def boundaryBits (bs : List Byte) : List Nat := (searchBits bs.length).filter (isBoundary (stuffBits bs))

/-- One configuration the search tries: the bits to flip and the method it counts as. -/
abbrev Trial := RepairMethod × List Nat

/-- Step 1: the uncertain bit, if it is a searched bit (R237). -/
def uncertainTrials (n : Nat) : Option Nat → List Trial
  | none => []
  | some u => if 8 ≤ u ∧ u < 8 * n then [(.uncertain, [u])] else []

/-- Step 2: each single flip, then with the bit before it (R238). -/
def singleTrials (n : Nat) : List Trial :=
  (searchBits n).flatMap fun i => if 8 ≤ i - 1 then [(.one, [i]), (.twoConsecutive, [i, i - 1])] else [(.one, [i])]

/-- The pairs of a list with the first before the second, in the order of the list, neighbouring bits left out. -/
def separatePairs : List Nat → List (List Nat)
  | [] => []
  | i :: is => (is.filterMap fun j => if j = i + 1 then none else some [i, j]) ++ separatePairs is

/-- Step 3: pairs of boundary bits (R239). -/
def pairTrials (bs : List Byte) : List Trial := (separatePairs (boundaryBits bs)).map fun ij => (.twoSeparate, ij)

/-- Every configuration in search order (R236). -/
def repairTrials (f : Frame) : List Trial :=
  uncertainTrials f.bytes.length f.uncertain ++ (singleTrials f.bytes.length ++ pairTrials f.bytes)

/-- A frame's bytes with the bits of a trial flipped. -/
def applyTrial (bs : List Byte) (t : Trial) : List Byte := t.2.foldl flipBit bs

/-- The first configuration with a valid CRC (R236). -/
def repairSearch (f : Frame) : Option Trial := (repairTrials f).find? fun t => crcValid (applyTrial f.bytes t)

/-- Whether REPAIR counts: the block is configured and the interest predicate, absent or true on the frame as given,
allows it (R236, R241). -/
def repairCounted (s : State) (f : Frame) (interest : Option Pred) : Bool := s.configured && optPredOnFrame interest f

/-! ### The operations -/

/-- CRC (op 0x10, R231). -/
def execCrc (f : Frame) (s : State) : Out := .next (s.answer (.u16 (crcField f.bytes)))

/-- CHECK_CRC (op 0x11, R232). -/
def execCheckCrc (f : Frame) (s : State) : Out := .next (s.answer (.u1 (crcValid f.bytes)))

/-- REPAIR (op 0x12, R236): the first valid configuration in search order, or the frame as given; the counters of
R241. -/
def execRepair (f : Frame) (interest : Option Pred) (s : State) : Out :=
  if crcValid f.bytes then .next (s.answer (.repaired true f))
  else
    let counted := repairCounted s f interest
    let s := if counted then s.noteCorrupt else s
    match repairSearch f with
    | none => .next (s.answer (.repaired false f))
    | some t =>
      let s := if counted then s.noteRepaired t.1 else s
      .next (s.answer (.repaired true { f with bytes := applyTrial f.bytes t }))

end Sys2Proof.Machine
end

