-- ==== Sys2Proof/Machine/Tx.lean ====
section
/-! DEFINITION. The TxStateMachine and the TxQueue: PREPARE_PACKET, TX_ENQUEUE, the blocking sends and EV_TX_TICK
(45_tx.md R300 to R317; 10_state.md R53). -/

namespace Sys2Proof.Machine

open Sys2Proof.Config

/-! ### Building a frame -/

/-- A length the frame cannot have: above 28, or above the bytes given (R300, D38). -/
def badLength (data : List Byte) (len : Byte) : Bool :=
  decide (maxData < len.toNat) || decide (data.length < len.toNat)

/-- SOF, IDEN, COM and the data: the frame before its CRC field (R300; 30_encoding.md R106, R107). -/
def frameHead (iden : BitVec 12) (flags : BitVec 4) (data : List Byte) (len : Byte) : List Byte :=
  sofByte :: iden.extractLsb' 4 8 :: (iden.extractLsb' 0 4 ++ flags) :: data.take len.toNat

/-- The whole frame, its CRC field high byte first (R300; 30_encoding.md R109). -/
def buildFrame (iden : BitVec 12) (flags : BitVec 4) (data : List Byte) (len : Byte) : List Byte :=
  let f := frameHead iden flags data len
  let c := crcField (f ++ [0, 0])
  f ++ [c.extractLsb' 8 8, c.extractLsb' 0 8]

/-- PREPARE_PACKET (op 0x25, R300). -/
def execPreparePacket (iden : BitVec 12) (flags : BitVec 4) (data : List Byte) (len : Byte) (s : State) : Out :=
  if badLength data len then .next (s.answer (.prepared false [] []))
  else
    let f := buildFrame iden flags data len
    .next (s.answer (.prepared true f (stuffStream f)))

/-! ### Queueing a frame -/

/-- A slot that holds the frame `f` of `len` data bytes, queued (R302). -/
def queuedSlot (f : List Byte) (len : Byte) : TxSlot where
  state := .waiting
  bytes := bufferOf f
  size := len.toNat + 5
  txBits := stuffStream f
  nTxBits := 10 * (len.toNat + 5) + 10
  bitIndex := 0
  collisions := 0
  firstCollisionPos := none
  bitErrors := 0
  busOccupied := 0

/-- How an attempt to enqueue ends. -/
inductive Enqueued where
  /-- the frame is queued -/
  | queued (s : State)
  /-- not configured, a bad length, or a full queue: nothing changes (R302) -/
  | rejected
  /-- no slot at `txHead`, which R84 says cannot be -/
  | outOfRange
  deriving DecidableEq, Repr

/-- The state with a frame queued at `txHead` and the bit timer on (R302). -/
def queueFrame (iden : BitVec 12) (flags : BitVec 4) (data : List Byte) (len : Byte) (s : State) : State :=
  { s.putTx s.txHead (queuedSlot (buildFrame iden flags data len) len) with
    txHead := (s.txHead + 1) % s.params.txQ
    txTimerEnabled := true }

/-- One attempt to enqueue: the body of TX_ENQUEUE and of every pass of a blocking send (R302, R303). -/
def enqueue (iden : BitVec 12) (flags : BitVec 4) (data : List Byte) (len : Byte) (s : State) : Enqueued :=
  if !s.configured || badLength data len then .rejected
  else
    match s.txSlots[s.txHead]? with
    | none => .outOfRange
    | some t => if t.state = .done then .queued (queueFrame iden flags data len s) else .rejected

/-- TX_ENQUEUE (op 0x26, R302). -/
def execTxEnqueue (iden : BitVec 12) (flags : BitVec 4) (data : List Byte) (len : Byte) (s : State) : Out :=
  match enqueue iden flags data len s with
  | .queued s' => .next (s'.answer (.u1 true))
  | .rejected => .next (s.answer (.u1 false))
  | .outOfRange => .fault .slotOutOfRange

/-! ### The blocking sends: a host loop of atomic passes (R303, R304; 10_state.md R53) -/

/-- The send ends with its result. -/
def State.endSend (s : State) (ok : Bit) : State := { s with send := none, result := .u1 ok }

/-- The host waits `POLL_MS` before its next pass (R303; log entry 9). -/
def State.waitSend (s : State) (h : Send) (ms : Word) : State :=
  { s with
    send := some { h with nextPollMs := ms + BitVec.ofNat 32 s.params.pollMs }
    result := .pending }

/-- `elapsed(ms0, ms) >= timeoutMs` (R303). -/
def sendTimedOut (h : Send) (ms : Word) : Bool := decide (h.sendTimeoutMs.toNat ≤ (elapsed h.sendStartMs ms).toNat)

/-- One pass of phase WAIT_DONE (R304). -/
def waitDonePass (h : Send) (ms : Word) (s : State) : Out :=
  match s.txSlots[h.sendSlot]? with
  | none => .fault .slotOutOfRange
  | some t =>
    if t.state = .done then .next (s.endSend true)
    else if sendTimedOut h ms then .next (s.endSend false)
    else .next (s.waitSend h ms)

/-- The frame of a SYNC_SEND_PACKET stands in slot `i` and its loop goes on to WAIT_DONE (R304): a pass of its own, due at
the same `ms` without a wait before it (log entry 10). -/
def State.sendQueued (s : State) (h : Send) (i : Nat) (ms : Word) : State :=
  { s with
    send := some { h with sendPhase := .waitDone, sendSlot := i, nextPollMs := ms }
    result := .pending }

/-- One pass of phase WAIT_SLOT (R303); an accepted frame ends SEND_PACKET, and takes SYNC_SEND_PACKET into WAIT_DONE
(R304). -/
def waitSlotPass (h : Send) (ms : Word) (s : State) : Out :=
  match enqueue h.iden h.flags h.data h.len s with
  | .outOfRange => .fault .slotOutOfRange
  | .queued s' =>
    match h.kind with
    | .async => .next (s'.endSend true)
    | .sync => .next (s'.sendQueued h s.txHead ms)
  | .rejected => if sendTimedOut h ms then .next (s.noteTxDropped.endSend false) else .next (s.waitSend h ms)

/-- One pass of a blocking send (R303, R304). -/
def sendPass (h : Send) (ms : Word) (s : State) : Out :=
  match h.sendPhase with
  | .waitSlot => waitSlotPass h ms s
  | .waitDone => waitDonePass h ms s

/-- The in-flight record of a send issued at `ms` (R53); its `sendSlot` has no value yet and is held as 0 (DESIGN CHOICE,
log entry 28). -/
def newSend (kind : SendKind) (iden : BitVec 12) (flags : BitVec 4) (data : List Byte) (len : Byte)
    (timeoutMs ms : Word) : Send where
  kind := kind
  iden := iden
  flags := flags
  data := data
  len := len
  sendStartMs := ms
  sendTimeoutMs := timeoutMs
  sendPhase := .waitSlot
  sendSlot := 0
  nextPollMs := ms

/-- Issues a blocking send: a send that cannot succeed answers 0 at once; otherwise its first pass (R303, R304). -/
def startSend (kind : SendKind) (iden : BitVec 12) (flags : BitVec 4) (data : List Byte) (len : Byte)
    (timeoutMs : Word) (ts : Stamp) (s : State) : Out :=
  if !s.configured || badLength data len then .next (s.endSend false)
  else
    sendPass (newSend kind iden flags data len timeoutMs ts.ms) ts.ms s

/-- SEND_PACKET (op 0x07, R303). -/
def execSendPacket (iden : BitVec 12) (flags : BitVec 4) (data : List Byte) (len : Byte) (timeoutMs : Word)
    (ts : Stamp) (s : State) : Out := startSend .async iden flags data len timeoutMs ts s

/-- SYNC_SEND_PACKET (op 0x08, R304). -/
def execSyncSendPacket (iden : BitVec 12) (flags : BitVec 4) (data : List Byte) (len : Byte) (timeoutMs : Word)
    (ts : Stamp) (s : State) : Out := startSend .sync iden flags data len timeoutMs ts s

/-! ### The bit timer -/

/-- Carrier sense: the bus has been quiet for more than `(EOF_BITS + IFS_BITS) * T` cycles (R307). The product is exact, not
reduced modulo 2^32 as a cycle count of 00_scope.md R13 would be (DESIGN CHOICE, log entry 27). -/
def busIdle (s : State) (now : Word) : Bool :=
  decide ((eofBits + s.params.ifsBits) * s.params.t < (elapsed s.lastBusActivity now).toNat)

/-- `startFrame(t)`: the RX edge interrupt is detached and bit 0 driven (R308). -/
def startFrame (t : TxSlot) (s : State) : State :=
  ({ s with rxTxSuspended := true }.drive (t.txBits.getD 0 false)).putTx s.txTail
    { t with state := .sending, bitIndex := 1 }

/-- `deferFrame(t)`: the attempt is marked busOccupied and retried on the next tick (R307). -/
def deferFrame (t : TxSlot) (s : State) : State := s.noteBusOccupied.putTx s.txTail t.noteDeferred

/-- `collision(t, k, now)`: the attempt is aborted, the bus released, the RX edge interrupt reattached (R310). -/
def collide (t : TxSlot) (k : Nat) (now : Word) (s : State) : State :=
  ({ s with rxTxSuspended := false, lastBusActivity := now }.drive true).putTx s.txTail
    { t.noteCollision k with state := .waiting, bitIndex := 0 }

/-- `nextBit(t)`: the next bit is driven (R313). -/
def nextBit (t : TxSlot) (s : State) : State :=
  (s.drive (t.txBits.getD t.bitIndex false)).putTx s.txTail { t with bitIndex := t.bitIndex + 1 }

/-- The frame is DONE, the bus released, RX reattached and the tracker refreshed (R314, before `txTail` moves). -/
def sentState (t : TxSlot) (now : Word) (s : State) : State :=
  (({ s with rxTxSuspended := false, lastBusActivity := now }.drive true).putTx s.txTail
    { t with state := .done }).noteSent t.collisions

/-- `finish(t, now)`: `txTail` moves on, and the timer stops unless the next slot holds a frame (R314). -/
def finishFrame (t : TxSlot) (now : Word) (s : State) : Out :=
  let s := sentState t now s
  let next := (s.txTail + 1) % s.params.txQ
  match s.txSlots[next]? with
  | none => .fault .slotOutOfRange
  | some u =>
    .next { s with
      txTail := next
      txTimerEnabled := if u.state = .waiting then s.txTimerEnabled else false }

/-- The bit driven since the previous tick lies in the collision window: before the EOD marker (R309, D21). -/
def inWindow (t : TxSlot) : Bool := decide (t.bitIndex - 1 < 10 * t.size - 2)

/-- The level the transmitter intended for the bit driven since the previous tick (R309). -/
def intendedBit (t : TxSlot) : Bit := t.txBits.getD (t.bitIndex - 1) false

/-- The end of a sending tick: the frame is finished, or the next bit is driven (R309). -/
def advanceBit (t : TxSlot) (now : Word) (s : State) : Out :=
  if t.bitIndex = t.nTxBits then finishFrame t now s else .next (nextBit t s)

/-- `sendTick(t, sample, now)`: in the window, a dominant sample of a recessive bit is a collision, a recessive
sample of a dominant bit a bit error (R309 to R312). -/
def sendTick (t : TxSlot) (sample : Bit) (now : Word) (s : State) : Out :=
  if inWindow t && (!sample && intendedBit t) then .next (collide t (t.bitIndex - 1) now s)
  else if inWindow t && (sample && !intendedBit t) then advanceBit t.noteBitError now s.noteBitError
  else advanceBit t now s

/-- The tick handler (R305, R306). -/
def tickHandler (sample : Bit) (ts : Stamp) (s : State) : Out :=
  match s.txSlots[s.txTail]? with
  | none => .fault .slotOutOfRange
  | some t =>
    match t.state with
    | .done => .next { s with txTimerEnabled := false }
    | .waiting => .next (if busIdle s ts.now then startFrame t s else deferFrame t s)
    | .sending => sendTick t sample ts.now s

/-- EV_TX_TICK (op 0x82, R305). -/
def execEvTxTick (sample : Bit) (ts : Stamp) (s : State) : Out := deliver (tickEnabled s) (tickHandler sample ts) s

end Sys2Proof.Machine
end

