-- ==== Sys2Proof/Machine/Delivery.lean ====
section
/-! DEFINITION. What stands between the placed records and the meanings: which of the agents of 00_scope.md R20 moves
next, and the order of events (60_exceptions.md R364, R366; 10_state.md R53). The step only calls this file. -/

namespace Sys2Proof.Machine

/-- The host's next pass of the blocking send under way; nothing if there is none (45_tx.md R303, R304). -/
def hostPoll (s : State) : Out :=
  match s.send with
  | none => .next s
  | some h => sendPass h h.nextPollMs s

/-- An ACK timeout due at or before an edge or a tick is delivered before it (60_exceptions.md R364), and none is forced
before a host command (DESIGN CHOICE, log entry 8). -/
def timeoutFirst (i : Instr) (s : State) : Bool :=
  match i with
  | .evEdge _ ts => ackDue s ts.now
  | .evTxTick _ ts => ackDue s ts.now
  | _ => false

/-- A pass of the blocking send `h` comes before an event of instant `ms` if it is due before it. If it is due at the same
`ms`, the environment chooses (60_exceptions.md R364 item 3; log entry 9): before an ACK timeout that is due first
(`timerDue`), and once more between that timeout and the event. -/
def passFirst (h : Send) (ms : Word) (placed : Nat) (timerDue : Bool) : Bool :=
  atOrAfter h.nextPollMs ms &&
    (decide (ms ≠ h.nextPollMs) || Config.passBeforeEvent ms (decide (h.sendPhase = .waitDone)) placed timerDue)

/-- The host moves before the record of `i` is performed: while a blocking send is under way the host issues no other
command (45_tx.md R304), and a pass may come before an event. -/
def hostFirst (i : Instr) (s : State) : Bool :=
  match s.send with
  | none => false
  | some h => !i.isEvent || passFirst h i.stamp.ms s.input.length (timeoutFirst i s)

/-- The ACK timer fires at its deadline, with the millisecond stamp `ms` of the record it comes before (60_exceptions.md
R362; 30_encoding.md R121; log entry 7). A step of its own (R365). -/
def dueTimeout (ms : Word) (s : State) : Out := ackTimeoutHandler ⟨s.ackDeadline, ms⟩ s

/-- The refusal for bytes that are no operation record (30_encoding.md R118; 60_exceptions.md R361). -/
def refusalOf : DecodeError → Refusal
  | .noRecord => .truncatedRecord
  | .unassigned op => .unassignedOperation op
  | .operandRange => .operandOutOfRange
  | .truncated => .truncatedRecord

/-- The first record of `bytes` is one that the ACK timer must fire before. -/
def timeoutBefore (bytes : List Byte) (s : State) : Bool :=
  match decode bytes with
  | .ok (i, _) => timeoutFirst i s
  | .error _ => false

/-- The bytes of one table instruction, cut to the record the decoder reads from them. -/
def recordBytes (nbits w : Nat) : List Byte :=
  match decode (tableBytes nbits w) with
  | .ok (_, rest) => (tableBytes nbits w).take ((tableBytes nbits w).length - rest.length)
  | .error _ => tableBytes nbits w

end Sys2Proof.Machine
end

