-- ==== Sys2Proof/Machine/RxQueue.lean ====
section
/-! DEFINITION. The RxQueue and the host's control commands (44_rx_queue.md R260 to R273). While `configured = 0`
every command here answers 0 or has no effect (R261). -/

namespace Sys2Proof.Machine

open Sys2Proof.Config

/-! ### Configuration and enables -/

/-- SETUP accepts the capacity: `Q_MIN <= capacity <= Q_MAX` (R260). -/
def capacityOk (p : Params) (capacity : Word) : Bool := decide (qMin ≤ capacity.toNat) && decide (capacity.toNat ≤ p.qMax)

/-- Every field of 10_state.md R55 at its "after successful SETUP" value. -/
def setupState (rxPin txPin capacity now : Word) (s : State) : State :=
  { s with
    configured := true
    q := capacity
    rxPin := rxPin
    txPin := txPin
    rxHostEnabled := true
    rxTxSuspended := false
    txTimerEnabled := false
    prevEdgeTime := now
    readBits := 0
    nBits := 0
    jitter := 0
    ackArmed := false
    ackDeadline := 0
    rxSlots := List.replicate capacity.toNat vacantSlot
    head := 0
    tail := 0
    overrun := false
    dropEnabled := false
    dropThreshold := 0
    isEssential := .never
    lastBusActivity := now
    txSlots := List.replicate s.params.txQ freeSlot
    txHead := 0
    txTail := 0
    txPinLevel := true
    rxStats := ⟨0, 0, 0, 0⟩
    txStats := ⟨0, 0, 0, 0, 0, 0⟩
    repairStats := ⟨0, 0, 0, 0, 0, 0⟩ }

/-- SETUP (op 0x01, R260): the block's only reset (70_reset_and_hazards.md R391). -/
def execSetup (rxPin txPin capacity : Word) (ts : Stamp) (s : State) : Out :=
  if s.configured || !capacityOk s.params capacity then .next (s.answer (.u1 false))
  else .next ((setupState rxPin txPin capacity ts.now s).answer (.u1 true))

/-- ENABLE (op 0x02, R262). -/
def execEnable (s : State) : Out :=
  .next ((if s.configured then { s with rxHostEnabled := true } else s).answer .none)

/-- DISABLE (op 0x03, R263). -/
def execDisable (s : State) : Out :=
  .next ((if s.configured then { s with rxHostEnabled := false } else s).answer .none)

/-- SET_DROP_POLICY (op 0x06, R266). -/
def execSetDropPolicy (threshold : Word) (essential : Pred) (s : State) : Out :=
  .next ((if s.configured then
    { s with dropEnabled := true, dropThreshold := threshold, isEssential := essential } else s).answer .none)

/-! ### Consumer side -/

/-- AVAILABLE (op 0x04, R264): the slot at `tail` is DONE. -/
def execAvailable (s : State) : Out :=
  if s.configured then
    match s.rxSlots[s.tail]? with
    | none => .fault .slotOutOfRange
    | some slot => .next (s.answer (.u1 (decide (slot.state = .done))))
  else .next (s.answer (.u1 false))

/-- The state after a frame was taken from the slot at `tail` (R265). -/
def takeFrame (s : State) : State :=
  { s.putRx s.tail vacantSlot with overrun := false, tail := (s.tail + 1) % s.q.toNat }

/-- A RECEIVE that finds no frame (R265). -/
def receiveNothing (s : State) : State := s.answer (.received false emptyRecord false)

/-- RECEIVE (op 0x05, R265): copy out, report and clear `overrun`, reinitialise the slot, advance `tail`. -/
def execReceive (s : State) : Out :=
  if s.configured then
    match s.rxSlots[s.tail]? with
    | none => .fault .slotOutOfRange
    | some slot =>
      if slot.state = .done then .next ((takeFrame s).answer (.received true (slotRecord slot) s.overrun))
      else .next (receiveNothing s)
  else .next (receiveNothing s)

/-! ### Statistics -/

/-- A getter: the value once configured, 0 before (R261, R267 to R270). -/
def getter (v : Word) (s : State) : Out := .next (s.answer (.u32 (if s.configured then v else 0)))

/-- GET_COUNT (op 0x09, R267). -/
def execGetCount (s : State) : Out := getter s.rxStats.rxCount s

/-- QUEUE_SIZE (op 0x0A, R268). -/
def execQueueSize (s : State) : Out := getter s.q s

/-- GET_N_QUEUED (op 0x0B, R269). -/
def execGetNQueued (s : State) : Out := getter (BitVec.ofNat 32 s.nQueued) s

/-- GET_MAX_QUEUED (op 0x0C, R270). -/
def execGetMaxQueued (s : State) : Out := getter s.rxStats.maxQueued s

/-- The counter record of the current values (R271). -/
def statsOf (s : State) : StatsRecord where
  rxCount := s.rxStats.rxCount
  rxDropped := s.rxStats.rxDropped
  rxOverwritten := s.rxStats.rxOverwritten
  maxQueued := s.rxStats.maxQueued
  nQueued := BitVec.ofNat 32 s.nQueued
  txSent := s.txStats.txSent
  txSingleCollisions := s.txStats.txSingleCollisions
  txMultipleCollisions := s.txStats.txMultipleCollisions
  txDropped := s.txStats.txDropped
  txBusOccupied := s.txStats.txBusOccupied
  txBitErrors := s.txStats.txBitErrors
  nCorrupt := s.repairStats.nCorrupt
  nRepaired := s.repairStats.nRepaired
  nOneBit := s.repairStats.nOneBit
  nTwoConsecutive := s.repairStats.nTwoConsecutive
  nTwoSeparate := s.repairStats.nTwoSeparate
  nUncertain := s.repairStats.nUncertain

/-- The counter record of zeros (R271). -/
def zeroStats : StatsRecord := ⟨0, 0, 0, 0, 0, 0, 0, 0, 0, 0, 0, 0, 0, 0, 0, 0, 0⟩

/-- DUMP_STATS (op 0x0D, R271). -/
def execDumpStats (s : State) : Out := .next (s.answer (.stats (if s.configured then statsOf s else zeroStats)))

end Sys2Proof.Machine
end

