-- ==== Sys2Proof/Machine/Dispatch.lean ====
section
/-! DEFINITION. The meaning of every operation of 30_encoding.md R117: one arm per constructor of `Instr`. -/

namespace Sys2Proof.Machine

def exec (i : Instr) (s : State) : Host.Outcome State Fault Refusal :=
  match i with
  | .setup rxPin txPin capacity ts => Sys2Proof.Machine.execSetup rxPin txPin capacity ts s
  | .enable _ => Sys2Proof.Machine.execEnable s
  | .disable _ => Sys2Proof.Machine.execDisable s
  | .available _ => Sys2Proof.Machine.execAvailable s
  | .receive _ => Sys2Proof.Machine.execReceive s
  | .setDropPolicy threshold essential _ => Sys2Proof.Machine.execSetDropPolicy threshold essential s
  | .sendPacket iden flags data len timeoutMs ts => Sys2Proof.Machine.execSendPacket iden flags data len timeoutMs ts s
  | .syncSendPacket iden flags data len timeoutMs ts => Sys2Proof.Machine.execSyncSendPacket iden flags data len timeoutMs ts s
  | .getCount _ => Sys2Proof.Machine.execGetCount s
  | .queueSize _ => Sys2Proof.Machine.execQueueSize s
  | .getNQueued _ => Sys2Proof.Machine.execGetNQueued s
  | .getMaxQueued _ => Sys2Proof.Machine.execGetMaxQueued s
  | .dumpStats _ => Sys2Proof.Machine.execDumpStats s
  | .crc f _ => Sys2Proof.Machine.execCrc f s
  | .checkCrc f _ => Sys2Proof.Machine.execCheckCrc f s
  | .repair f interest _ => Sys2Proof.Machine.execRepair f interest s
  | .frameIden f _ => Sys2Proof.Machine.execFrameIden f s
  | .frameFlags f _ => Sys2Proof.Machine.execFrameFlags f s
  | .frameDataLen f _ => Sys2Proof.Machine.execFrameDataLen f s
  | .frameData f k _ => Sys2Proof.Machine.execFrameData f k s
  | .manchEncode b _ => Sys2Proof.Machine.execManchEncode b s
  | .manchDecode g _ => Sys2Proof.Machine.execManchDecode g s
  | .eodTest g _ => Sys2Proof.Machine.execEodTest g s
  | .sofMatch g _ => Sys2Proof.Machine.execSofMatch g s
  | .bitTimeDecode cycles jitterIn _ => Sys2Proof.Machine.execBitTimeDecode cycles jitterIn s
  | .preparePacket iden flags data len _ => Sys2Proof.Machine.execPreparePacket iden flags data len s
  | .txEnqueue iden flags data len _ => Sys2Proof.Machine.execTxEnqueue iden flags data len s
  | .stuffFrame f _ => Sys2Proof.Machine.execStuffFrame f s
  | .evEdge level ts => Sys2Proof.Machine.execEvEdge level ts s
  | .evAckTimeout ts => Sys2Proof.Machine.execEvAckTimeout ts s
  | .evTxTick sample ts => Sys2Proof.Machine.execEvTxTick sample ts s

end Sys2Proof.Machine
end

