-- ==== Sys2Proof/Machine/Run.lean ====
section
/-! DEFINITION. What one step does with the placed records, and how a record is placed. The block fetches no
instructions (20_memory.md R93); what the environment delivers to it stands in `State.input` (log entry 2). -/

namespace Sys2Proof.Machine

/-- One step of the system: one pass of the host, or one event or command (20_memory.md R88; 60_exceptions.md R365).
With no record placed, only the host of a blocking send can move; without one, nothing happens (70_reset_and_hazards.md
R403). With a record placed, the host's pass or a due ACK timeout comes first where it must, the record staying in place;
else the record is performed. Bytes that are no record are refused, the state unchanged (60_exceptions.md R361). -/
def performNext (s : State) : Out :=
  match s.input with
  | [] => hostPoll s
  | b :: bs =>
    match decode (b :: bs) with
    | .error e => .refused (refusalOf e)
    | .ok (i, rest) =>
      if hostFirst i s then hostPoll s
      else if timeoutFirst i s then dueTimeout i.stamp.ms s
      else exec i { s with input := rest }

/-- `s` with bytes placed before everything else, and nothing that would move before their first record: no blocking
send under way, no ACK timer that has run out at an edge or a tick. -/
def placeFirst (bytes : List Byte) (s : State) : State :=
  { s with
    input := bytes ++ s.input
    send := none
    ackArmed := s.ackArmed && !timeoutBefore bytes s }

end Sys2Proof.Machine
end

