-- ==== Sys2Proof/Machine/Step.lean ====
section
/-! DEFINITION. One step of the machine, and where an instruction is placed for it (log entry 2). -/

namespace Sys2Proof.Machine

/-- One step: the next placed record is performed, or the host of a blocking send moves. -/
def step (s : State) : Host.Outcome State Fault Refusal := performNext s

/-- `s` with one table instruction placed where the next step takes it. -/
def State.withFetchWord (s : State) (nbits w : Nat) : State := placeFirst (recordBytes nbits w) s

end Sys2Proof.Machine
end

