-- ==== Sys2Proof/Machine/Bench.lean ====
section
/-! DEFINITION. The environment the spec's programs assume: the reference bus (30_encoding.md R111, R121;
60_exceptions.md R369) and the two test-bench shorthands FEED and TICKS (30_encoding.md R121). They are sequences of
operations, "not operations of the block": nothing in the step uses this file. -/

namespace Sys2Proof.Machine

open Sys2Proof.Config

/-- The wire of the reference bus: the AND of every node's driven level, recessive when none drives (R369, D31). -/
def busLevel (driven : List Bit) : Bit := driven.all id

/-- What the reference bus shows in the two ACK bit-times: the pulse, if any, in the second (R111). -/
def ackField (acknowledged : Bool) : List Bit := [true, !acknowledged]

/-- Runs `k` after `o`; a fault or a refusal ends the run. -/
def thenRun (o : Out) (k : State → Out) : Out :=
  match o with
  | .next s => k s
  | .fault r => .fault r
  | .refused r => .refused r

/-- The ACK timer's expiry, inserted at `ackDeadline` where `due` asks for it (R121). -/
def insertTimeout (due : Bool) (ms : Word) (s : State) : Out :=
  if due then exec (.evAckTimeout ⟨s.ackDeadline, ms⟩) s else .next s

/-- The instant of bit `k` of a string fed from `t0` (R121). -/
def bitTime (t : Nat) (t0 : Word) (k : Nat) : Word := t0 + BitVec.ofNat 32 (k * t)

/-- The edges FEED expands to: one for every bit that differs from the one before it, the bus recessive before the
first (R121). -/
def feedEdges (t : Nat) (t0 : Word) : (prev : Bit) → (k : Nat) → List Bit → List (Word × Bit)
  | _, _, [] => []
  | prev, k, b :: bs =>
    if b = prev then feedEdges t t0 prev (k + 1) bs else (bitTime t t0 k, b) :: feedEdges t t0 b (k + 1) bs

/-- The lines of a FEED, one after another: a timeout that is due, then the edge (R121, R364). -/
def runEdges (ms : Word) : List (Word × Bit) → State → Out
  | [], s => .next s
  | (now, level) :: es, s =>
    thenRun (insertTimeout (ackDue s now) ms s) fun s => thenRun (exec (.evEdge level ⟨now, ms⟩) s) (runEdges ms es)

/-- `FEED t0, "<bits>"` at `ms` (R121); an armed timer runs out at the end. -/
def feed (t0 ms : Word) (bits : List Bit) (s : State) : Out :=
  thenRun (runEdges ms (feedEdges s.params.t t0 true 0 bits) s) fun s => insertTimeout s.ackArmed ms s

/-- `TICKS t0, n, "<others>"` at `ms` (R121), the `n` ticks from tick `k` on: each samples the level this block drives
AND the others' level. -/
def ticksFrom (t0 ms : Word) (others : List Bit) (k : Nat) : Nat → State → Out
  | 0, s => .next s
  | n + 1, s =>
    let sample := busLevel [s.txPinLevel, others.getD k true]
    thenRun (exec (.evTxTick sample ⟨bitTime s.params.t t0 k, ms⟩) s) (ticksFrom t0 ms others (k + 1) n)

/-- `TICKS t0, n, "<others>"` (R121). -/
def ticks (t0 ms : Word) (n : Nat) (others : List Bit) (s : State) : Out := ticksFrom t0 ms others 0 n s

end Sys2Proof.Machine
end

