-- ==== Sys2Proof/Machine/Assembler.lean ====
section
/-! DEFINITION. The assembler syntax of 30_encoding.md R120: a line of text becomes one operation record of Decode.lean,
or one of the shorthands of R121 (Bench.lean). A line outside the syntax, or with a value outside its operand's type
(R116), has no reading. DESIGN CHOICE, log entry 26: a negative `i32` is written with a leading `-`. Where R120
leaves the form of a line open, the choices are those of log entry 31. -/

namespace Sys2Proof.Machine

/-! ### The operation map as a table (R116, R117) -/

/-- The operand types of R116. -/
inductive OperandType where
  | u1
  | u4
  | u8
  | u10
  | u12
  | u32
  | i32
  | bytes
  | frame
  | pred
  | optpred
  deriving DecidableEq, Repr

/-- One row of R117: code, mnemonic, operands. -/
structure OperationRow where
  op : Byte
  mnemonic : String
  operands : List (String × OperandType)
  deriving DecidableEq, Repr

/-- The operands the four packet operations begin with (R117). -/
def packetOperands : List (String × OperandType) :=
  [("iden", .u12), ("flags", .u4), ("data", .bytes), ("len", .u8)]

/-- The operation map, host control (R117). -/
def controlRows : List OperationRow :=
  [⟨0x01, "SETUP", [("rxPin", .u32), ("txPin", .u32), ("capacity", .u32)]⟩,
   ⟨0x02, "ENABLE", []⟩,
   ⟨0x03, "DISABLE", []⟩,
   ⟨0x04, "AVAILABLE", []⟩,
   ⟨0x05, "RECEIVE", []⟩,
   ⟨0x06, "SET_DROP_POLICY", [("threshold", .u32), ("essential", .pred)]⟩,
   ⟨0x07, "SEND_PACKET", packetOperands ++ [("timeoutMs", .u32)]⟩,
   ⟨0x08, "SYNC_SEND_PACKET", packetOperands ++ [("timeoutMs", .u32)]⟩,
   ⟨0x09, "GET_COUNT", []⟩,
   ⟨0x0A, "QUEUE_SIZE", []⟩,
   ⟨0x0B, "GET_N_QUEUED", []⟩,
   ⟨0x0C, "GET_MAX_QUEUED", []⟩,
   ⟨0x0D, "DUMP_STATS", []⟩]

/-- The operation map, codecs (R117). -/
def codecRows : List OperationRow :=
  [⟨0x10, "CRC", [("f", .frame)]⟩,
   ⟨0x11, "CHECK_CRC", [("f", .frame)]⟩,
   ⟨0x12, "REPAIR", [("f", .frame), ("interest", .optpred)]⟩,
   ⟨0x13, "FRAME_IDEN", [("f", .frame)]⟩,
   ⟨0x14, "FRAME_FLAGS", [("f", .frame)]⟩,
   ⟨0x15, "FRAME_DATA_LEN", [("f", .frame)]⟩,
   ⟨0x16, "FRAME_DATA", [("f", .frame), ("k", .u8)]⟩,
   ⟨0x20, "MANCH_ENCODE", [("b", .u8)]⟩,
   ⟨0x21, "MANCH_DECODE", [("g", .u10)]⟩,
   ⟨0x22, "EOD_TEST", [("g", .u10)]⟩,
   ⟨0x23, "SOF_MATCH", [("g", .u10)]⟩,
   ⟨0x24, "BIT_TIME_DECODE", [("cycles", .u32), ("jitterIn", .i32)]⟩,
   ⟨0x25, "PREPARE_PACKET", packetOperands⟩,
   ⟨0x26, "TX_ENQUEUE", packetOperands⟩,
   ⟨0x27, "STUFF_FRAME", [("f", .frame)]⟩]

/-- The operation map, hardware events (R117). -/
def eventRows : List OperationRow :=
  [⟨0x80, "EV_EDGE", [("level", .u1)]⟩,
   ⟨0x81, "EV_ACK_TIMEOUT", []⟩,
   ⟨0x82, "EV_TX_TICK", [("sample", .u1)]⟩]

/-- The operation map (R117). -/
def operationRows : List OperationRow := controlRows ++ codecRows ++ eventRows

/-! ### Tokens -/

/-- A token of a line. -/
inductive Token where
  /-- one of `@ / , [ ] =` -/
  | sym (c : Char)
  /-- a run of any other characters: a number, a name, a predicate -/
  | word (cs : List Char)
  /-- a quoted bit string -/
  | quoted (cs : List Char)
  /-- a quote that the line does not close -/
  | broken
  deriving DecidableEq, Repr

/-- The quotation mark. -/
def quoteChar : Char := Char.ofNat 0x22

/-- The word collected so far, if any. -/
def flushWord (acc : List Char) (ts : List Token) : List Token := if acc = [] then ts else .word acc.reverse :: ts

/-- The tokens of a line up to its comment; `acc` is the word or bit string being read, last character first. -/
def lexFrom : (quoting : Bool) → (acc : List Char) → List Char → List Token
  | false, acc, [] => flushWord acc []
  | true, _, [] => [.broken]
  | true, acc, c :: cs => if c = quoteChar then .quoted acc.reverse :: lexFrom false [] cs else lexFrom true (c :: acc) cs
  | false, acc, c :: cs =>
    if c = ';' then flushWord acc []
    else if c = quoteChar then flushWord acc (lexFrom true [] cs)
    else if c.isWhitespace then flushWord acc (lexFrom false [] cs)
    else if ['@', '/', ',', '[', ']', '='].contains c then flushWord acc (.sym c :: lexFrom false [] cs)
    else lexFrom false (c :: acc) cs

/-! ### Numbers -/

/-- A digit in base `base`; the letters of either case (DESIGN CHOICE, log entry 31). -/
def digitOf (base : Nat) (c : Char) : Option Nat :=
  let v := if c.isDigit then c.toNat - 48 else if 'a' ≤ c ∧ c ≤ 'f' then c.toNat - 87
    else if 'A' ≤ c ∧ c ≤ 'F' then c.toNat - 55 else base
  if v < base then some v else none

/-- Digits after `n`. -/
def digitsFrom (base : Nat) : Nat → List Char → Option Nat
  | n, [] => some n
  | n, c :: cs => (digitOf base c).bind fun d => digitsFrom base (base * n + d) cs

/-- A decimal or `0x` hexadecimal number (R120); the `x` is a small letter (DESIGN CHOICE, log entry 31). -/
def numberOf : List Char → Option Nat
  | [] => none
  | '0' :: 'x' :: c :: cs => digitsFrom 16 0 (c :: cs)
  | c :: cs => digitsFrom 10 0 (c :: cs)

/-- A number below `bound`. -/
def numberBelow (bound : Nat) (cs : List Char) : Option Nat :=
  (numberOf cs).bind fun n => if n < bound then some n else none

/-! ### Operands -/

/-- One comma-separated piece: its name, if it is written `name=value`, and its tokens. -/
structure Piece where
  name : Option (List Char)
  value : List Token
  deriving DecidableEq, Repr

/-- The pieces of an operand list; commas inside brackets do not separate. -/
def splitPieces : (depth : Nat) → (acc : List Token) → List Token → List (List Token)
  | _, acc, [] => [acc.reverse]
  | depth, acc, .sym c :: ts =>
    if c = '[' then splitPieces (depth + 1) (.sym c :: acc) ts
    else if c = ']' then splitPieces (depth - 1) (.sym c :: acc) ts
    else if c = ',' ∧ depth = 0 then acc.reverse :: splitPieces 0 [] ts
    else splitPieces depth (.sym c :: acc) ts
  | depth, acc, t :: ts => splitPieces depth (t :: acc) ts

/-- A piece is named iff one `=` follows its first word (`==` belongs to a predicate). -/
def pieceOf : List Token → Piece
  | .word w :: .sym '=' :: .sym '=' :: ts => ⟨none, .word w :: .sym '=' :: .sym '=' :: ts⟩
  | .word w :: .sym '=' :: ts => ⟨some w, ts⟩
  | ts => ⟨none, ts⟩

/-- The pieces of an operand list. -/
def piecesOf (ts : List Token) : List Piece := if ts = [] then [] else (splitPieces 0 [] ts).map pieceOf

/-- Takes the first piece that satisfies `p`. -/
def takePiece (p : Piece → Bool) (ps : List Piece) : Option (List Token × List Piece) :=
  (ps.find? p).map fun x => (x.value, ps.eraseP p)

/-- The piece of an operand: the one that names it, or else the first that names none (R120). R120 does not say whether
named operands may stand out of order or beside positional ones; here they may (DESIGN CHOICE, log entry 31). -/
def operandPiece (name : String) (ps : List Piece) : Option (List Token × List Piece) :=
  (takePiece (fun p => decide (p.name = some name.toList)) ps).orElse fun _ =>
    takePiece (fun p => decide (p.name = none)) ps

/-- The bytes of `[b0, b1, ...]` after the opening bracket (R120). -/
def byteItems : List Token → Option (List Byte)
  | [.word w, .sym ']'] => (numberBelow 256 w).map fun n => [BitVec.ofNat 8 n]
  | .word w :: .sym ',' :: ts =>
    (numberBelow 256 w).bind fun n => (byteItems ts).map fun bs => BitVec.ofNat 8 n :: bs
  | _ => none

/-- A `bytes` operand (R116, R120). -/
def bytesOperand : List Token → Option (List Byte)
  | [.sym '[', .sym ']'] => some []
  | .sym '[' :: ts => (byteItems ts).bind fun bs => if bytesOk bs then some bs else none
  | _ => none

/-- A `pred` operand (R120). -/
def predOperand : List Token → Option Pred
  | [.word w] =>
    if w = "pred:false".toList then some .never else if w = "pred:true".toList then some .always else none
  | [.word w, .sym '=', .sym '=', .word v] =>
    if w = "pred:iden".toList then (numberBelow 4096 v).map fun n => .idenEq (BitVec.ofNat 12 n) else none
  | _ => none

/-- An `optpred` operand (R120). -/
def optPredOperand (ts : List Token) : Option (Option Pred) :=
  if ts = [.word "pred:none".toList] then some none else (predOperand ts).map some

/-- An unsigned operand below `bound`. -/
def natOperand (bound : Nat) : List Token → Option Nat
  | [.word w] => numberBelow bound w
  | _ => none

/-- An `i32` operand, in two's complement (R116; log entry 26). -/
def i32Operand : List Token → Option Word
  | [.word ('-' :: w)] => (numberBelow (2 ^ 31 + 1) w).map fun n => BitVec.ofInt 32 (-(n : Int))
  | [.word w] => (numberBelow (2 ^ 31) w).map fun n => BitVec.ofNat 32 n
  | _ => none

/-- The index of an `uncertain=<i>` piece, if there is one, and the other pieces (R120). R120 has it follow the frame's
bytes; that it may stand anywhere in the operand list is a DESIGN CHOICE (log entry 31). -/
def uncertainPiece (ps : List Piece) : Option (Option Nat × List Piece) :=
  match takePiece (fun p => decide (p.name = some "uncertain".toList)) ps with
  | none => some (none, ps)
  | some (ts, ps) => (natOperand 264 ts).map fun i => (some i, ps)

/-- The record bytes of one operand written as `ts` (Decode.lean), and the pieces left. -/
def operandBytesOf (ty : OperandType) (ts : List Token) (ps : List Piece) : Option (List Byte × List Piece) :=
  match ty with
  | .u1 => (natOperand 2 ts).map fun n => (putU8 (BitVec.ofNat 8 n), ps)
  | .u4 => (natOperand 16 ts).map fun n => (putU8 (BitVec.ofNat 8 n), ps)
  | .u8 => (natOperand 256 ts).map fun n => (putU8 (BitVec.ofNat 8 n), ps)
  | .u10 => (natOperand 1024 ts).map fun n => (putU16 (BitVec.ofNat 16 n), ps)
  | .u12 => (natOperand 4096 ts).map fun n => (putU16 (BitVec.ofNat 16 n), ps)
  | .u32 => (natOperand (2 ^ 32) ts).map fun n => (putU32 (BitVec.ofNat 32 n), ps)
  | .i32 => (i32Operand ts).map fun v => (putU32 v, ps)
  | .bytes => (bytesOperand ts).map fun bs => (putBytes bs, ps)
  | .frame => (bytesOperand ts).bind fun bs => (uncertainPiece ps).map fun u => (putFrame ⟨bs, u.1⟩, u.2)
  | .pred => (predOperand ts).map fun p => (putPred p, ps)
  | .optpred => (optPredOperand ts).map fun p => (putOptPred p, ps)

/-- The record bytes of a row's operands; every piece must be used (R120, R123). -/
def allOperandBytes : List (String × OperandType) → List Piece → Option (List Byte)
  | [], ps => if ps = [] then some [] else none
  | (name, ty) :: rows, ps =>
    (operandPiece name ps).bind fun a => (operandBytesOf ty a.1 a.2).bind fun b =>
      (allOperandBytes rows b.2).map fun bs => b.1 ++ bs

/-! ### Lines -/

/-- What a line says. -/
inductive Line where
  /-- an empty line or a comment -/
  | blank
  /-- an operation record, as bytes -/
  | record (bytes : List Byte)
  /-- `FEED t0, "<bits>"` (R121) -/
  | feed (t0 ms : Word) (bits : List Bit)
  /-- `TICKS t0, n, "<others>"` (R121) -/
  | ticks (t0 ms : Word) (n : Nat) (others : List Bit)
  deriving DecidableEq, Repr

/-- The wire bits of a quoted string; spaces only group it (R121). -/
def bitString : List Char → Option (List Bit)
  | [] => some []
  | c :: cs =>
    if c = ' ' then bitString cs
    else if c = '0' then (bitString cs).map (false :: ·)
    else if c = '1' then (bitString cs).map (true :: ·)
    else none

/-- The time prefix `@<now>[/<ms>]`, and the tokens after it; what is omitted keeps the value before (R120).
The whole prefix may be omitted too, and a `/<ms>` needs its `<now>` (DESIGN CHOICE, log entry 31). -/
def stampOf (prev : Stamp) : List Token → Option (Stamp × List Token)
  | .sym '@' :: .word a :: .sym '/' :: .word b :: ts =>
    (numberBelow (2 ^ 32) a).bind fun now => (numberBelow (2 ^ 32) b).map fun ms =>
      (⟨BitVec.ofNat 32 now, BitVec.ofNat 32 ms⟩, ts)
  | .sym '@' :: .word a :: ts => (numberBelow (2 ^ 32) a).map fun now => (⟨BitVec.ofNat 32 now, prev.ms⟩, ts)
  | .sym '@' :: _ => none
  | ts => some (prev, ts)

/-- A FEED line's operands (R121), in that order and unnamed (DESIGN CHOICE, log entry 31). -/
def feedLine (ts : Stamp) : List Token → Option Line
  | [.word t0, .sym ',', .quoted bits] =>
    (numberBelow (2 ^ 32) t0).bind fun t0 => (bitString bits).map fun b => .feed (BitVec.ofNat 32 t0) ts.ms b
  | _ => none

/-- A TICKS line's operands (R121), in that order and unnamed, all three present (DESIGN CHOICE, log entry 31). -/
def ticksLine (ts : Stamp) : List Token → Option Line
  | [.word t0, .sym ',', .word n, .sym ',', .quoted bits] =>
    (numberBelow (2 ^ 32) t0).bind fun t0 => (numberOf n).bind fun n => (bitString bits).map fun b =>
      .ticks (BitVec.ofNat 32 t0) ts.ms n b
  | _ => none

/-- A mnemonic, in capitals as R117 writes it, and its operands at the instant `ts` (R120; the case of letters is a DESIGN
CHOICE, log entry 31). -/
def bodyLine (ts : Stamp) : List Token → Option Line
  | [] => some .blank
  | .word m :: rest =>
    if m = "FEED".toList then feedLine ts rest
    else if m = "TICKS".toList then ticksLine ts rest
    else
      (operationRows.find? fun r => decide (r.mnemonic.toList = m)).bind fun r =>
        (allOperandBytes r.operands (piecesOf rest)).map fun bs => .record (r.op :: (bs ++ putStamp ts))
  | _ => none

/-- One line of text, after a line at `prev`: its instant and what it says (R120). -/
def assembleLine (prev : Stamp) (text : List Char) : Option (Stamp × Line) :=
  (stampOf prev (lexFrom false [] text)).bind fun a => (bodyLine a.1 a.2).map fun l => (a.1, l)

/-- A program's lines in order, times starting from 0 (R120). -/
def assembleFrom : Stamp → List (List Char) → Option (List Line)
  | _, [] => some []
  | prev, text :: texts =>
    (assembleLine prev text).bind fun a => (assembleFrom a.1 texts).map fun ls => a.2 :: ls

/-- A program as its lines (R120). -/
def assemble (texts : List (List Char)) : Option (List Line) := assembleFrom ⟨0, 0⟩ texts

/-! ### Running a program -/

/-- What one line does to the machine: its operation, or its expansion (R121). -/
def runLine (l : Line) (s : State) : Out :=
  match l with
  | .blank => .next s
  | .record bytes =>
    match decode bytes with
    | .ok (i, _) => exec i s
    | .error _ => .refused .operandOutOfRange
  | .feed t0 ms bits => feed t0 ms bits s
  | .ticks t0 ms n others => ticks t0 ms n others s

/-- A program's lines one after another: "the line order gives the interleaving" (60_exceptions.md R364). -/
def runLines : List Line → State → Out
  | [], s => .next s
  | l :: ls, s => thenRun (runLine l s) (runLines ls)

end Sys2Proof.Machine
end

