-- ==== Sys2Proof/Safety.lean ====
section
/-! DEFINITION. What counts as a legal build, a good state and a safe run, in the terms the statements use. The
invariants are those of 10_state.md R54 and the rules they follow from; each field cites its rule. -/

namespace Sys2Proof.Machine

open Sys2Proof.Config

/-- The constraints the spec puts on the open parameters. -/
structure LegalParams (p : Params) : Prop where
  /-- a bit-time is a positive number of cycles (R12) -/
  t_pos : 0 < p.t
  /-- `Q_MAX >= 2` (D43) -/
  qMax_ge : qMin ≤ p.qMax
  /-- `TXQ >= 1` (D44) -/
  txQ_pos : 1 ≤ p.txQ
  /-- `POLL_MS >= 1` (D45) -/
  pollMs_pos : 1 ≤ p.pollMs
  /-- SOF_ACCEPT contains `0x03D` (R113) -/
  sof_mem : sofRaw ∈ p.sofAccept
  /-- SOF_ACCEPT contains only patterns at Hamming distance at most 1 from it (R113) -/
  sof_near : ∀ g ∈ p.sofAccept, g = sofRaw ∨ ∃ k < 10, g = sofRaw ^^^ BitVec.ofNat 10 (2 ^ k)
  /-- every bound of a band is a number of cycles -/
  bands_finite : ∀ b ∈ p.bandTable, 0 < b.hi.den
  /-- bands ascend and their counts do not fall (R146) -/
  bands_ascend : p.bandTable.Pairwise fun a b =>
    a.hi.num * (b.hi.den : Int) < b.hi.num * (a.hi.den : Int) ∧ a.n ≤ b.n
  /-- a correction takes bits away, it adds none (R188) -/
  corrections_shorten : ∀ r ∈ p.runCorrections, r.bits ≤ r.measuredBits

/-! ### The receive side -/

/-- What holds of every receive slot. -/
structure RxSlotOk (slot : RxSlot) : Prop where
  /-- "`size` never exceeds the maximum" (R54 item 2) -/
  size_le : slot.size ≤ maxFrame
  /-- the buffer is canonical and bytes with index `>= size` are 0 (R37) -/
  bytes_wf : memoryWf slot.bytes slot.size = true
  /-- a VACANT slot is reinitialised (R56) -/
  of_vacant : slot.state = .vacant → slot = vacantSlot
  /-- a SEARCHING slot holds nothing yet (R183) -/
  of_searching : slot.state = .searching → slot = { vacantSlot with state := .searching }
  /-- from LOADING on, byte 0 is the SOF byte (R187) -/
  of_loaded : slot.state ≠ .vacant → slot.state ≠ .searching → 1 ≤ slot.size ∧ readByte slot.bytes 0 = sofByte
  /-- a frame in WAITING_ACK has at least 5 bytes (R192) -/
  of_waiting : slot.state = .waitingAck → minEodSize ≤ slot.size
  /-- before completion the outcome fields hold their reinit values (R52, R56) -/
  of_open : slot.state ≠ .done → slot.result = .ok ∧ slot.ack = .noAck ∧ slot.seqNo = 0 ∧ slot.timestamp = 0
  /-- a frame that completed with result OK has at least 5 bytes (R39, R192) -/
  of_ok : slot.state = .done → slot.result = .ok → minEodSize ≤ slot.size
  /-- an ERROR_MAX_PACKET frame has 33 bytes (R353) -/
  of_maxPacket : slot.state = .done → slot.result = .errorMaxPacket → slot.size = maxFrame
  /-- the uncertain index is `none` or 0..263 (R37) -/
  uncertain_lt : ∀ i, slot.uncertain = some i → i < 8 * maxFrame

/-- What holds of the receive side once configured. -/
structure RxOn (s : State) : Prop where
  /-- the pool has `Q` slots (R37) -/
  length_eq : s.rxSlots.length = s.q.toNat
  /-- `Q_MIN <= Q` (R33) -/
  q_ge : qMin ≤ s.q.toNat
  /-- `Q <= Q_MAX` (R33) -/
  q_le : s.q.toNat ≤ s.params.qMax
  /-- `head` is 0..Q-1 (R41) -/
  head_lt : s.head < s.q.toNat
  /-- `tail` is 0..Q-1 (R41) -/
  tail_lt : s.tail < s.q.toNat
  /-- every slot is as above -/
  slots_ok : ∀ slot ∈ s.rxSlots, RxSlotOk slot
  /-- `RxSlot[head].state != DONE` (R54 item 1) -/
  head_open : ∀ slot, s.rxSlots[s.head]? = some slot → slot.state ≠ .done
  /-- every other slot is VACANT or DONE: only the producer's slot is in between (R89) -/
  others_closed : ∀ i slot, i ≠ s.head → s.rxSlots[i]? = some slot → slot.state = .vacant ∨ slot.state = .done
  /-- `nBits <= 9` between events (R54 item 4) -/
  nBits_le : s.nBits ≤ 9
  /-- only bits `nBits-1..0` of the accumulator are not 0 (R35) -/
  readBits_lt : s.readBits.toNat < 2 ^ s.nBits
  /-- the ACK timer is armed exactly while the head slot is in WAITING_ACK (R54 item 7; R192 to R194) -/
  ack_armed : s.ackArmed = true ↔ ∃ slot, s.rxSlots[s.head]? = some slot ∧ slot.state = .waitingAck

/-- The receive side's invariant: off before SETUP (70_reset_and_hazards.md R390), as `RxOn` after it. -/
structure RxInv (s : State) : Prop where
  off : s.configured = false → s.ackArmed = false ∧ s.rxHostEnabled = false ∧ s.rxSlots = []
  on : s.configured = true → RxOn s

/-! ### The transmit side -/

/-- What holds of every transmit slot. -/
structure TxSlotOk (t : TxSlot) : Prop where
  /-- a frame has at most 33 bytes (R45) -/
  size_le : t.size ≤ maxFrame
  /-- the buffer is canonical -/
  bytes_wf : memoryWf t.bytes t.size = true
  /-- the stream is the stuffed stream of the frame (R45, 41_frame_codec.md R164) -/
  bits_eq : t.txBits = stuffStream (readBytes t.bytes t.size)
  /-- a queued frame has at least 5 bytes, a valid CRC, and `10*size + 10` bits (R45, 45_tx.md R300) -/
  of_queued : t.state ≠ .done →
    minEodSize ≤ t.size ∧ crcValid (readBytes t.bytes t.size) = true ∧ t.nTxBits = 10 * t.size + 10
  /-- a waiting frame has driven nothing of its next attempt (R302, R310) -/
  of_waiting : t.state = .waiting → t.bitIndex = 0
  /-- a sending frame has driven 1 to `nTxBits` bits (R308, R313) -/
  of_sending : t.state = .sending → 1 ≤ t.bitIndex ∧ t.bitIndex ≤ t.nTxBits

/-- The distance of slot `i` from `txTail` in queue order. -/
def txOffset (s : State) (i : Nat) : Nat := (i + s.params.txQ - s.txTail) % s.params.txQ

/-- What holds of the transmit side once configured. -/
structure TxOn (s : State) : Prop where
  /-- the pool has `TXQ` slots (R45) -/
  length_eq : s.txSlots.length = s.params.txQ
  /-- `txHead` is 0..TXQ-1 (R47) -/
  head_lt : s.txHead < s.params.txQ
  /-- `txTail` is 0..TXQ-1 (R47) -/
  tail_lt : s.txTail < s.params.txQ
  /-- every slot is as above -/
  slots_ok : ∀ t ∈ s.txSlots, TxSlotOk t
  /-- at most one slot is SENDING, and it is `TxSlot[txTail]` (R54 item 6) -/
  sending_at_tail : ∀ i t, s.txSlots[i]? = some t → t.state = .sending → i = s.txTail
  /-- `rxTxSuspended = 1` iff some slot is SENDING (R54 item 6) -/
  suspended_iff : s.rxTxSuspended = true ↔ ∃ t ∈ s.txSlots, t.state = .sending
  /-- while SENDING the pin is `txBits[bitIndex-1]`, else recessive (R48) -/
  pin_sending : ∀ t, s.txSlots[s.txTail]? = some t → t.state = .sending →
    s.txPinLevel = t.txBits.getD (t.bitIndex - 1) false
  pin_idle : s.rxTxSuspended = false → s.txPinLevel = true
  /-- the slots that hold frames are those from `txTail` up to `txHead` (R47) -/
  queue : ∃ c ≤ s.params.txQ, s.txHead = (s.txTail + c) % s.params.txQ ∧
    ∀ i t, s.txSlots[i]? = some t → (t.state ≠ .done ↔ txOffset s i < c)
  /-- a queued frame is never left without a running timer (70_reset_and_hazards.md R398) -/
  timer : s.txTimerEnabled = false → ∀ t ∈ s.txSlots, t.state = .done

/-- A send under way is one the loop can go on with (R53). -/
structure SendOk (s : State) (h : Send) : Prop where
  configured : s.configured = true
  length_ok : badLength h.data h.len = false
  slot_lt : h.sendSlot < s.params.txQ

/-- The transmit side's invariant: off before SETUP (R390), as `TxOn` after it. -/
structure TxInv (s : State) : Prop where
  off : s.configured = false → s.rxTxSuspended = false ∧ s.txTimerEnabled = false ∧ s.txPinLevel = true ∧ s.txSlots = []
  on : s.configured = true → TxOn s
  send_ok : ∀ h, s.send = some h → SendOk s h

/-- A good state: a legal build, and both sides' invariants. -/
structure Good (s : State) : Prop where
  params : LegalParams s.params
  rx : RxInv s
  tx : TxInv s

/-! ### Delivery order (20_memory.md R92, 44_rx_queue.md R272 item 3; 10_state.md R54 item 8) -/

/-- The distance of slot `i` from `tail` in queue order. -/
def rxOffset (s : State) (i : Nat) : Nat := (i + s.q.toNat - s.tail) % s.q.toNat

/-- The unread frames are `tail, tail+1, ..., tail+nQueued-1`, `head` follows them, and their sequence numbers rise
below the next one. -/
structure InOrder (s : State) : Prop where
  head_eq : s.head = (s.tail + s.nQueued) % s.q.toNat
  done_iff : ∀ i slot, s.rxSlots[i]? = some slot → (slot.state = .done ↔ rxOffset s i < s.nQueued)
  below_next : ∀ slot ∈ s.rxSlots, slot.state = .done → slot.seqNo.toNat < s.rxStats.rxCount.toNat
  rising : ∀ i j a b, s.rxSlots[i]? = some a → s.rxSlots[j]? = some b → a.state = .done → b.state = .done →
    rxOffset s i < rxOffset s j → a.seqNo.toNat < b.seqNo.toNat

/-! ### Frame buffers -/

/-- Every frame buffer of both pools is canonical and within its 33 bytes (20_memory.md R80). -/
structure BuffersWf (s : State) : Prop where
  rx : ∀ slot ∈ s.rxSlots, memoryWf slot.bytes maxFrame = true
  tx : ∀ t ∈ s.txSlots, memoryWf t.bytes maxFrame = true

/-! ### The jitter carry -/

/-- A build with the reference tables at its bit-time (40_bit_time_decoder.md R142, 42_rx_decoder.md R188), whose
carry range fits the register. -/
structure ReferenceTables (p : Params) : Prop where
  t_pos : 0 < p.t
  t_le : p.t ≤ 2 ^ 31
  bands : p.bandTable = referenceBands p.t
  corrections : p.runCorrections = referenceCorrections p.t

/-- The jitter register lies in `[-T, T/2)` (40_bit_time_decoder.md R149). -/
def JitterInRange (s : State) : Prop := -(s.params.t : Int) ≤ s.jitter.toInt ∧ 2 * s.jitter.toInt < s.params.t

/-! ### The repair search -/

/-- The place of a configuration in REPAIR's search order, compared lexicographically (43_crc_codec.md R236 to R239):
the uncertain bit; bit `i` alone, then with the bit before it; the pair `(i, j)`. -/
def trialRank (t : Trial) : List Nat :=
  match t.1 with
  | .uncertain => 0 :: t.2
  | .one => [1, t.2.headD 0, 0]
  | .twoConsecutive => [1, t.2.headD 0, 1]
  | .twoSeparate => 2 :: t.2

/-! ### Safe runs -/

/-- No run from `s` ends in a fault: "the engine never halts on a bad frame" (60_exceptions.md R350). -/
def NeverFaults (s : State) : Prop := ∀ k r, Sys2Proof.core.run k s ≠ .fault r

end Sys2Proof.Machine
end

