-- ==== Sys2Proof/Certificates/Slice0/Obligations.lean ====
section
/-! DEFINITION. The statements for the provers. Each docstring names the rules of spec/ the statement formalises, or the
log entry of a choice of the model that it rests on. `if ... then ... else` over a bit reads it as a truth value. Three
fields that many statements name are the model's own places: `result` for a command's answer (log entry 11), `input` for
the records (log entry 2) and `params` for the build (log entry 4). -/

section

open Sys2Proof Sys2Proof.Machine Sys2Proof.Config

/-! ### Encoding (30_encoding.md R115 to R118; log entry 1) -/

/-- Decoding the record of a well-formed operation gives it back, with every byte after it untouched. The record layout
is the model's (log entry 1), and well-formedness bounds a frame's uncertain index by 263 (log entry 22). -/
def Obligations.DecodeEncodeRoundTrip : Prop :=
  ∀ (i : Instr) (rest : List Byte), i.wellFormed = true → decode (encode i ++ rest) = .ok (i, rest)

/-- Bytes that decode are exactly the record of a well-formed operation and what follows it: each operation has one
record (log entry 1). A well-formed frame's uncertain index is at most 263 (log entry 22). -/
def Obligations.DecodedBytesAreTheRecord : Prop :=
  ∀ (bs rest : List Byte) (i : Instr), decode bs = .ok (i, rest) → i.wellFormed = true ∧ bs = encode i ++ rest

/-- R118: exactly the codes outside the operation map spell no operation, and the step refuses such a record. -/
def Obligations.UnassignedCodesAreRefused : Prop :=
  ∀ (op : Byte) (bs : List Byte),
    (decode (op :: bs) = .error (.unassigned op) ↔
      op.toNat = 0x00 ∨ (0x0E ≤ op.toNat ∧ op.toNat ≤ 0x0F) ∨ (0x17 ≤ op.toNat ∧ op.toNat ≤ 0x1F) ∨
        (0x28 ≤ op.toNat ∧ op.toNat ≤ 0x7F) ∨ (0x83 ≤ op.toNat ∧ op.toNat ≤ 0xFF)) ∧
    ∀ s : State, s.input = op :: bs → decode (op :: bs) = .error (.unassigned op) →
      step s = .refused (.unassignedOperation op)

/-- R116: an operand outside its type is no operation, and the step refuses the record: a `u1` above 1; a `u10`, `u12` or
`u4` with a bit above its width; more than 33 bytes of a frame or of data; a frame's uncertain index above 263, or not
given as absent or present; a predicate of no form. Where the operand lies in the record is the model's layout
(log entry 1); the bound on an uncertain index is log entry 22. -/
def Obligations.OutOfRangeOperandsAreRefused : Prop :=
  (∀ (op b : Byte) (bs : List Byte), (op = 0x80 ∨ op = 0x82) → 2 ≤ b.toNat →
    decode (op :: b :: bs) = .error .operandRange) ∧
  (∀ (op a b : Byte) (bs : List Byte), (op = 0x21 ∨ op = 0x22 ∨ op = 0x23) → 4 ≤ b.toNat →
    decode (op :: a :: b :: bs) = .error .operandRange) ∧
  (∀ (op a b : Byte) (bs : List Byte), (op = 0x07 ∨ op = 0x08 ∨ op = 0x25 ∨ op = 0x26) → 16 ≤ b.toNat →
    decode (op :: a :: b :: bs) = .error .operandRange) ∧
  (∀ (op a b c : Byte) (bs : List Byte), (op = 0x07 ∨ op = 0x08 ∨ op = 0x25 ∨ op = 0x26) → b.toNat < 16 →
    16 ≤ c.toNat → decode (op :: a :: b :: c :: bs) = .error .operandRange) ∧
  (∀ (op a b c n : Byte) (bs : List Byte), (op = 0x07 ∨ op = 0x08 ∨ op = 0x25 ∨ op = 0x26) → b.toNat < 16 →
    c.toNat < 16 → 33 < n.toNat → decode (op :: a :: b :: c :: n :: bs) = .error .operandRange) ∧
  (∀ (op n : Byte) (bs : List Byte), ((0x10 ≤ op.toNat ∧ op.toNat ≤ 0x16) ∨ op = 0x27) → 33 < n.toNat →
    decode (op :: n :: bs) = .error .operandRange) ∧
  (∀ (op p : Byte) (data bs : List Byte), ((0x10 ≤ op.toNat ∧ op.toNat ≤ 0x16) ∨ op = 0x27) → data.length ≤ 33 →
    2 ≤ p.toNat → decode (op :: BitVec.ofNat 8 data.length :: (data ++ p :: bs)) = .error .operandRange) ∧
  (∀ (op lo hi : Byte) (data bs : List Byte), ((0x10 ≤ op.toNat ∧ op.toNat ≤ 0x16) ∨ op = 0x27) → data.length ≤ 33 →
    264 ≤ 256 * hi.toNat + lo.toNat →
    decode (op :: BitVec.ofNat 8 data.length :: (data ++ 1 :: lo :: hi :: bs)) = .error .operandRange) ∧
  (∀ (a b c d tag : Byte) (bs : List Byte), 4 ≤ tag.toNat →
    decode (0x06 :: a :: b :: c :: d :: tag :: bs) = .error .operandRange) ∧
  (∀ (a b c d lo hi : Byte) (bs : List Byte), 16 ≤ hi.toNat →
    decode (0x06 :: a :: b :: c :: d :: 2 :: lo :: hi :: bs) = .error .operandRange) ∧
  (∀ (f : Frame) (tag : Byte) (bs : List Byte), frameOk f = true → 5 ≤ tag.toNat →
    decode (0x12 :: (putFrame f ++ tag :: bs)) = .error .operandRange) ∧
  (∀ (f : Frame) (lo hi : Byte) (bs : List Byte), frameOk f = true → 16 ≤ hi.toNat →
    decode (0x12 :: (putFrame f ++ 3 :: lo :: hi :: bs)) = .error .operandRange) ∧
  ∀ s : State, decode s.input = .error .operandRange → step s = .refused .operandOutOfRange

/-- Four records written out byte by byte decode to the operation they stand for (log entry 1). -/
def Obligations.WrittenRecordsDecode : Prop :=
  decode [0x01, 4, 0, 0, 0, 4, 0, 0, 0, 4, 0, 0, 0, 0x88, 0x13, 0, 0, 0, 0, 0, 0] =
    .ok (.setup 4 4 4 ⟨5000, 0⟩, []) ∧
  decode [0x80, 0, 0x20, 0x93, 0x01, 0, 1, 0, 0, 0] = .ok (.evEdge false ⟨103200, 1⟩, []) ∧
  decode [0x26, 0xA4, 0x08, 0x08, 1, 0x00, 1, 0, 0, 0, 0, 0, 0, 0, 0] =
    .ok (.txEnqueue 0x8A4 0x8 [0x00] 1 ⟨0, 0⟩, []) ∧
  decode [0x11, 6, 0x0E, 0x8A, 0x48, 0x00, 0xFC, 0x1C, 1, 27, 0, 0xF0, 0x49, 0x02, 0, 2, 0, 0, 0] =
    .ok (.checkCrc ⟨[0x0E, 0x8A, 0x48, 0x00, 0xFC, 0x1C], some 27⟩ ⟨150000, 2⟩, [])

/-! ### The step -/

/-- The bytes at the front of the input decode to a well-formed operation: the step performs it. A due ACK timeout is a
step of its own before it (60_exceptions.md R364 item 1, R365; log entries 2 and 7), and so is a pass of the host of a
blocking send, before a command, before a later event, and by the environment's choice before an event of the same `ms`, or
between the timeout and that event (45_tx.md R304; log entry 9). That a host command is performed without a due ACK timeout
before it is the model's choice (log entry 8). -/
def Obligations.StepRunsTheDecodedOperation : Prop :=
  ∀ (s : State) (i : Instr) (rest : List Byte), decode s.input = .ok (i, rest) →
    (hostFirst i s = false → timeoutFirst i s = false → step s = exec i { s with input := rest }) ∧
    (hostFirst i s = false → timeoutFirst i s = true →
      step s = ackTimeoutHandler ⟨s.ackDeadline, i.stamp.ms⟩ s ∧
      ∀ u, step s = .next u → u.input = s.input ∧ u.send = s.send ∧ timeoutFirst i u = false ∧
        (hostFirst i u = false → step u = exec i { u with input := rest })) ∧
    (hostFirst i s = true → ∃ h, s.send = some h ∧ step s = sendPass h h.nextPollMs s) ∧
    (hostFirst i s = true ↔ ∃ h, s.send = some h ∧
      (i.op.getLsbD 7 = false ∨
        ((i.stamp.ms - h.nextPollMs).toNat < 2 ^ 31 ∧
          (i.stamp.ms ≠ h.nextPollMs ∨
            passBeforeEvent i.stamp.ms (decide (h.sendPhase = .waitDone)) s.input.length (timeoutFirst i s) = true)))) ∧
    (timeoutFirst i s = true ↔
      (i.op = 0x80 ∨ i.op = 0x82) ∧ s.ackArmed = true ∧ (i.stamp.now - s.ackDeadline).toNat < 2 ^ 31)

/-! ### Reset and configuration -/

/-- R390: the power-on state's stated values. -/
def Obligations.PowerOnValues : Prop :=
  State.reset.configured = false ∧ State.reset.rxHostEnabled = false ∧ State.reset.rxTxSuspended = false ∧
    State.reset.txTimerEnabled = false ∧ State.reset.ackArmed = false ∧ State.reset.txPinLevel = true ∧
    State.reset.rxSlots = [] ∧ State.reset.txSlots = []

/-- R260, R55: SETUP fails on a configured block or an illegal capacity, and else writes every field. -/
def Obligations.SetupWritesEveryField : Prop :=
  ∀ (rxPin txPin capacity : Word) (ts : Stamp) (s : State),
    (s.configured = true ∨ capacity.toNat < 2 ∨ s.params.qMax < capacity.toNat →
      exec (.setup rxPin txPin capacity ts) s = .next { s with result := .u1 false }) ∧
    (s.configured = false → 2 ≤ capacity.toNat → capacity.toNat ≤ s.params.qMax →
      exec (.setup rxPin txPin capacity ts) s = .next
        { params := s.params
          input := s.input
          result := .u1 true
          send := s.send
          configured := true
          q := capacity
          rxPin := rxPin
          txPin := txPin
          rxHostEnabled := true
          rxTxSuspended := false
          txTimerEnabled := false
          prevEdgeTime := ts.now
          readBits := 0
          nBits := 0
          jitter := 0
          ackArmed := false
          ackDeadline := 0
          rxSlots := List.replicate capacity.toNat
            { state := .vacant
              bytes := []
              size := 0
              result := .ok
              ack := .noAck
              seqNo := 0
              timestamp := 0
              uncertain := none }
          head := 0
          tail := 0
          overrun := false
          dropEnabled := false
          dropThreshold := 0
          isEssential := .never
          lastBusActivity := ts.now
          txSlots := List.replicate s.params.txQ
            { state := .done
              bytes := []
              size := 0
              txBits := []
              nTxBits := 0
              bitIndex := 0
              collisions := 0
              firstCollisionPos := none
              bitErrors := 0
              busOccupied := 0 }
          txHead := 0
          txTail := 0
          txPinLevel := true
          rxStats := ⟨0, 0, 0, 0⟩
          txStats := ⟨0, 0, 0, 0, 0, 0⟩
          repairStats := ⟨0, 0, 0, 0, 0, 0⟩ })

/-- R94, R33: once configured, no step changes the configuration or the number of slots of either pool. -/
def Obligations.ConfigurationIsPermanent : Prop :=
  ∀ s s' : State, step s = .next s' → s.configured = true →
    s'.configured = true ∧ s'.q = s.q ∧ s'.rxPin = s.rxPin ∧ s'.txPin = s.txPin ∧ s'.params = s.params ∧
      s'.rxSlots.length = s.rxSlots.length ∧ s'.txSlots.length = s.txSlots.length

/-- R261: before SETUP every operational command answers 0 or nothing and changes nothing, and no event is delivered
with its source off. The fields of RECEIVE's empty record, and that a failing send leaves none in flight, are the model's
choices (log entries 30 and 20); that a record of EV_EDGE or EV_TX_TICK before SETUP is a next state with nothing changed,
rather than no record, is the model's inference (log entry 6). -/
def Obligations.BeforeSetupNothingHappens : Prop :=
  ∀ (s : State) (ts : Stamp), s.configured = false →
    (∀ (threshold : Word) (p : Pred), exec (.enable ts) s = .next { s with result := .none } ∧
      exec (.disable ts) s = .next { s with result := .none } ∧
      exec (.setDropPolicy threshold p ts) s = .next { s with result := .none }) ∧
    exec (.available ts) s = .next { s with result := .u1 false } ∧
    exec (.receive ts) s = .next
      { s with
        result := .received false
          { bytes := []
            size := 0
            result := .ok
            ack := .noAck
            seqNo := 0
            timestamp := 0
            uncertain := none } false } ∧
    (∀ (iden : BitVec 12) (flags : BitVec 4) (data : List Byte) (len : Byte) (t : Word),
      exec (.txEnqueue iden flags data len ts) s = .next { s with result := .u1 false } ∧
      exec (.sendPacket iden flags data len t ts) s = .next { s with send := none, result := .u1 false } ∧
      exec (.syncSendPacket iden flags data len t ts) s = .next { s with send := none, result := .u1 false }) ∧
    exec (.getCount ts) s = .next { s with result := .u32 0 } ∧
    exec (.queueSize ts) s = .next { s with result := .u32 0 } ∧
    exec (.getNQueued ts) s = .next { s with result := .u32 0 } ∧
    exec (.getMaxQueued ts) s = .next { s with result := .u32 0 } ∧
    exec (.dumpStats ts) s = .next { s with result := .stats ⟨0, 0, 0, 0, 0, 0, 0, 0, 0, 0, 0, 0, 0, 0, 0, 0, 0⟩ } ∧
    ∀ b, exec (.evEdge b ts) s = .next s ∧ exec (.evTxTick b ts) s = .next s

/-! ### Host control -/

/-- R262, R263, R266: ENABLE and DISABLE write `rxHostEnabled` of a configured block, SET_DROP_POLICY its three
drop-policy registers, and nothing else. -/
def Obligations.ControlCommandsWriteTheirRegisters : Prop :=
  ∀ (s : State) (threshold : Word) (p : Pred) (ts : Stamp),
    exec (.enable ts) s =
      .next { s with rxHostEnabled := if s.configured then true else s.rxHostEnabled, result := .none } ∧
    exec (.disable ts) s =
      .next { s with rxHostEnabled := if s.configured then false else s.rxHostEnabled, result := .none } ∧
    exec (.setDropPolicy threshold p ts) s = .next
      { s with
        dropEnabled := if s.configured then true else s.dropEnabled
        dropThreshold := if s.configured then threshold else s.dropThreshold
        isEssential := if s.configured then p else s.isEssential
        result := .none }

/-- R265: RECEIVE copies a DONE slot at `tail` out, reports and clears `overrun`, reinitialises the slot and advances
`tail`; otherwise it reports failure and changes nothing. The fields of the empty record it then answers are the model's
choice (log entry 30). -/
def Obligations.ReceiveTakesTheTailFrame : Prop :=
  ∀ (s : State) (ts : Stamp),
    let nothing : State :=
      { s with
        result := .received false
          { bytes := []
            size := 0
            result := .ok
            ack := .noAck
            seqNo := 0
            timestamp := 0
            uncertain := none } false }
    (s.configured = false → exec (.receive ts) s = .next nothing) ∧
    ∀ slot : RxSlot, s.configured = true → s.rxSlots[s.tail]? = some slot →
      (slot.state ≠ .done → exec (.receive ts) s = .next nothing) ∧
      (slot.state = .done → exec (.receive ts) s = .next
        { s with
          result := .received true
            { bytes := (List.range slot.size).map (readByte slot.bytes)
              size := slot.size
              result := slot.result
              ack := slot.ack
              seqNo := slot.seqNo
              timestamp := slot.timestamp
              uncertain := slot.uncertain } s.overrun
          overrun := false
          rxSlots := s.rxSlots.set s.tail
            { state := .vacant
              bytes := []
              size := 0
              result := .ok
              ack := .noAck
              seqNo := 0
              timestamp := 0
              uncertain := none }
          tail := (s.tail + 1) % s.q.toNat })

/-- R264, R267 to R271: AVAILABLE tells whether the slot at `tail` is DONE; the getters and DUMP_STATS answer the counters
of a configured block, and zeros before; `nQueued` is the number of DONE slots (10_state.md R42). None changes
anything. -/
def Obligations.QueriesAnswerAndChangeNothing : Prop :=
  ∀ (s : State) (ts : Stamp),
    (s.configured = false → exec (.available ts) s = .next { s with result := .u1 false }) ∧
    (∀ slot, s.configured = true → s.rxSlots[s.tail]? = some slot →
      exec (.available ts) s = .next { s with result := .u1 (decide (slot.state = .done)) }) ∧
    exec (.getCount ts) s = .next { s with result := .u32 (if s.configured then s.rxStats.rxCount else 0) } ∧
    exec (.queueSize ts) s = .next { s with result := .u32 (if s.configured then s.q else 0) } ∧
    exec (.getNQueued ts) s = .next { s with
      result := .u32 (if s.configured then
        BitVec.ofNat 32 (s.rxSlots.filter fun slot => decide (slot.state = .done)).length else 0) } ∧
    exec (.getMaxQueued ts) s = .next { s with result := .u32 (if s.configured then s.rxStats.maxQueued else 0) } ∧
    (s.configured = true → exec (.dumpStats ts) s = .next
      { s with
        result := .stats
          { rxCount := s.rxStats.rxCount
            rxDropped := s.rxStats.rxDropped
            rxOverwritten := s.rxStats.rxOverwritten
            maxQueued := s.rxStats.maxQueued
            nQueued := BitVec.ofNat 32 (s.rxSlots.filter fun slot => decide (slot.state = .done)).length
            txSent := s.txStats.txSent
            txSingleCollisions := s.txStats.txSingleCollisions
            txMultipleCollisions := s.txStats.txMultipleCollisions
            txDropped := s.txStats.txDropped
            txBusOccupied := s.txStats.txBusOccupied
            txBitErrors := s.txStats.txBitErrors
            nCorrupt := s.repairStats.nCorrupt
            nRepaired := s.repairStats.nRepaired
            nOneBit := s.repairStats.nOneBit
            nTwoConsecutive := s.repairStats.nTwoConsecutive
            nTwoSeparate := s.repairStats.nTwoSeparate
            nUncertain := s.repairStats.nUncertain } }) ∧
    (s.configured = false → exec (.dumpStats ts) s = .next
      { s with result := .stats ⟨0, 0, 0, 0, 0, 0, 0, 0, 0, 0, 0, 0, 0, 0, 0, 0, 0⟩ })

/-! ### Codecs -/

/-- R230: the CRC register starts at 0x7FFF and takes each byte bit 7 first, shifting left and feeding the polynomial back.
R160 to R163, R165 to R168, R231, R232: the group commands, the frame accessors (a missing byte reads as 0), CRC and
CHECK_CRC answer the function of their operand and change nothing. -/
def Obligations.PureCommandsAnswer : Prop :=
  crcBytes [] = 0x7FFF ∧
  (∀ (bs : List Byte) (b : Byte), crcBytes (bs ++ [b]) =
    [7, 6, 5, 4, 3, 2, 1, 0].foldl
      (fun (crc : BitVec 15) (k : Nat) => (crc <<< 1) ^^^ (if crc.getLsbD 14 ^^ b.getLsbD k then 0x0F9D else 0)) (crcBytes bs)) ∧
  ∀ (s : State) (ts : Stamp) (b : Byte) (g : Group) (f : Frame) (k : Byte),
    exec (.manchEncode b ts) s = .next { s with
      result := .u10 (b.extractLsb' 4 4 ++ ~~~(b.extractLsb' 4 1) ++ b.extractLsb' 0 4 ++ ~~~(b.extractLsb' 0 1)) } ∧
    exec (.manchDecode g ts) s = .next { s with result := .u8 (g.extractLsb' 6 4 ++ g.extractLsb' 1 4) } ∧
    exec (.eodTest g ts) s = .next { s with result := .u1 (decide (g.extractLsb' 0 2 ∈ s.params.eodAccept)) } ∧
    exec (.sofMatch g ts) s = .next { s with result := .u1 (decide (g ∈ s.params.sofAccept)) } ∧
    exec (.frameIden f ts) s = .next { s with
      result := .u12 ((f.bytes[1]?.getD 0) ++ (f.bytes[2]?.getD 0).extractLsb' 4 4) } ∧
    exec (.frameFlags f ts) s = .next { s with result := .u4 ((f.bytes[2]?.getD 0).extractLsb' 0 4) } ∧
    exec (.frameDataLen f ts) s = .next { s with
      result := .u8 (BitVec.ofNat 8 (if 5 ≤ f.bytes.length then f.bytes.length - 5 else 0)) } ∧
    exec (.frameData f k ts) s = .next { s with
      result := .u8 (if 5 ≤ f.bytes.length ∧ k.toNat < f.bytes.length - 5 then f.bytes[3 + k.toNat]?.getD 0 else 0) } ∧
    exec (.crc f ts) s = .next { s with
      result := .u16 ((~~~(crcBytes ((f.bytes.drop 1).take (f.bytes.length - 3)))).setWidth 16 <<< 1) } ∧
    exec (.checkCrc f ts) s = .next { s with result := .u1 (decide (crcBytes (f.bytes.drop 1) = 0x19B7)) }

/-- R101 to R104: unstuffing undoes stuffing; the stuffed groups are exactly the well-formed ones, and none of them is
an EOD group; the EOD group of a byte differs only in its last two bits. -/
def Obligations.StuffingIsExactlyTheWellFormedGroups : Prop :=
  (∀ b : Byte, decGroup (encGroup b) = b) ∧
  (∀ g : Group, (∃ b : Byte, g = encGroup b) ↔
    (g.getLsbD 5 = !g.getLsbD 6) ∧ (g.getLsbD 0 = !g.getLsbD 1)) ∧
  (∀ b : Byte, (encGroup b).extractLsb' 0 2 ≠ 0) ∧
  ∀ b : Byte, (eodGroup b).extractLsb' 0 2 = 0 ∧ (eodGroup b).extractLsb' 2 8 = (encGroup b).extractLsb' 2 8

/-- R164: the transmit stream of a frame: its bytes stuffed, the last with the EOD marker forced, and ten recessive
bits; nothing for no byte. Any uncertain index is ignored. -/
def Obligations.StuffFrameBuildsTheStream : Prop :=
  ∀ (s : State) (ts : Stamp) (f : Frame),
    (f.bytes = [] → exec (.stuffFrame f ts) s = .next { s with result := .stream [] }) ∧
    (∀ (bs : List Byte) (b : Byte), f.bytes = bs ++ [b] →
      ∃ r : List Bit, exec (.stuffFrame f ts) s = .next { s with result := .stream r } ∧
        r.length = 10 * (bs.length + 1) + 10 ∧
        (∀ k < bs.length, ∀ j < 10, r[10 * k + j]? = some ((encGroup (bs.getD k 0)).getLsbD (9 - j))) ∧
        (∀ j < 10, r[10 * bs.length + j]? = some ((encGroup b &&& 0x3FC).getLsbD (9 - j))) ∧
        ∀ j < 10, r[10 * (bs.length + 1) + j]? = some true)

/-- R105 (derived there): in a stream of stuffed bytes five equal bits begin at a check position, and six never follow
one another; with the EOD marker, six equal bits can only end the stream. -/
def Obligations.StuffedRunLengths : Prop :=
  (∀ (bs : List Byte) (p : Nat) (v : Bit),
    (∀ j < 5, ((bs.map encGroup).flatMap groupBitsOf)[p + j]? = some v) →
      (p % 10 = 4 ∨ p % 10 = 9) ∧ ((bs.map encGroup).flatMap groupBitsOf)[p + 5]? ≠ some v) ∧
  (∀ (bs : List Byte) (b : Byte) (p : Nat) (v : Bit), b.getLsbD 0 = false →
    (∀ j < 6, (stuffBits (bs ++ [b]))[p + j]? = some v) →
      v = false ∧ p + 6 = (stuffBits (bs ++ [b])).length)

/-- R124: frame bits and raw stream positions: check positions carry no frame bit, and the two maps are inverse. -/
def Obligations.BitIndexMapsAreInverse : Prop :=
  (∀ i : Nat, rawPos i = 10 * (i / 8) + i % 8 + (if 4 ≤ i % 8 then 1 else 0)) ∧
  (∀ i : Nat, rawPos i % 10 ≠ 4 ∧ rawPos i % 10 ≠ 9 ∧ bitOf (rawPos i) = some i) ∧
  (∀ p i : Nat, bitOf p = some i → rawPos i = p) ∧
  ∀ p : Nat, bitOf p = none ↔ p % 10 = 4 ∨ p % 10 = 9

/-! ### The bit-time decoder -/

/-- R147 with the reference table of R142 at any bit-time, or with that table scaled by a clock multiplier `num / den` that
makes `T` a whole number of cycles (R148): BIT_TIME_DECODE answers the pseudocode's two values, narrowed to a `u32` and an
`i32` modulo 2^32 (the model's reading where they do not fit: log entry 19). -/
def Obligations.BitTimeDecodeMatchesTheFormula : Prop :=
  (∀ num den t : Nat, 0 < den → den ∣ num * t → den * (scaleClock num den (paramsAt t)).t = num * t) ∧
  ∀ (s : State) (cycles : Word) (jitterIn : SWord) (ts : Stamp),
    0 < s.params.t →
    (s.params.bandTable = referenceBands s.params.t ∨
      ∃ num den t0, 0 < den ∧ den ∣ num * t0 ∧ s.params = scaleClock num den (paramsAt t0)) →
    let t : Int := s.params.t
    let e : Int := (cycles.toNat : Int) - jitterIn.toInt
    let k : Int := (2 * e + t) / (2 * t)
    exec (.bitTimeDecode cycles jitterIn ts) s = .next { s with
      result :=
        if 2 * e < t then .bitTime 0 (BitVec.ofInt 32 (jitterIn.toInt - cycles.toNat))
        else if 21 * t ≤ 2 * e then .bitTime (BitVec.ofInt 32 k) 0
        else .bitTime (BitVec.ofInt 32 k) (BitVec.ofInt 32 (if k * t < e then e - k * t else 0)) }

/-- R146: any table of ascending bands, each bound an exact number of cycles: the band that holds `e` gives its count, with
the carry rule of R143, or of R144 where the count is 0; above the last band the estimate of R145. That the first band has
no lower bound is the model's choice (log entry 13), and so is the narrowing modulo 2^32 (log entry 19). -/
def Obligations.BitTimeDecodeFollowsAnyBandTable : Prop :=
  ∀ (s : State) (cycles : Word) (jitterIn : SWord) (ts : Stamp),
    let e : Int := (cycles.toNat : Int) - jitterIn.toInt
    let below (c : Cycles) : Prop := e * (c.den : Int) < c.num
    (∀ b ∈ s.params.bandTable, 0 < b.hi.den) →
    s.params.bandTable.Pairwise (fun a b => a.hi.num * (b.hi.den : Int) < b.hi.num * (a.hi.den : Int)) →
    (∀ (k : Nat) (b : Band), s.params.bandTable[k]? = some b → below b.hi →
      (∀ a, 0 < k → s.params.bandTable[k - 1]? = some a → ¬ below a.hi) →
      exec (.bitTimeDecode cycles jitterIn ts) s = .next { s with
        result := if b.n = 0 then .bitTime 0 (BitVec.ofInt 32 (jitterIn.toInt - cycles.toNat))
          else .bitTime (BitVec.ofNat 32 b.n) (BitVec.ofInt 32 (if b.x < e then e - b.x else 0)) }) ∧
    ((∀ b ∈ s.params.bandTable, ¬ below b.hi) →
      exec (.bitTimeDecode cycles jitterIn ts) s = .next { s with
        result := .bitTime (BitVec.ofNat 32 ((2 * e + s.params.t) / (2 * s.params.t)).toNat) 0 })

/-- R149 (derived there): with the reference tables the jitter register stays in `[-T, T/2)` over every step. In the
reset state it lies there, by the model's choice of 0 (log entry 3); that the reset state has the reference tables and a
positive `T` rests on the parameters chosen for it (log entry 4). -/
def Obligations.JitterStaysInRange : Prop :=
  (ReferenceTables State.reset.params ∧ JitterInRange State.reset) ∧
  ∀ s s' : State, ReferenceTables s.params → JitterInRange s → step s = .next s' → JitterInRange s'

/-! ### CRC and repair -/

/-- R233 (derived there): exactly two field values pass the check, `CRC(f)`, whose bit 0 is 0, and `CRC(f) ^ 0x8F9D`,
whose bit 0 is 1. -/
def Obligations.ExactlyTwoFieldsPassTheCheck : Prop :=
  ∀ (bs : List Byte) (hi lo : Byte) (v : BitVec 16), 1 ≤ bs.length →
    (crcValid (bs ++ [v.extractLsb' 8 8, v.extractLsb' 0 8]) = true ↔
      v = crcField (bs ++ [hi, lo]) ∨ v = crcField (bs ++ [hi, lo]) ^^^ 0x8F9D) ∧
    (crcField (bs ++ [hi, lo])).getLsbD 0 = false ∧ (crcField (bs ++ [hi, lo]) ^^^ 0x8F9D).getLsbD 0 = true

/-- R233 (derived there): one flipped bit anywhere after SOF makes CHECK_CRC 0. -/
def Obligations.SingleFlipsAreDetected : Prop :=
  ∀ (bs : List Byte) (i : Nat), crcValid bs = true → 8 ≤ i → i < 8 * bs.length → crcValid (flipBit bs i) = false

/-- R236, R241: REPAIR's three ends: a valid frame, the first configuration of the search order that is valid, or none. It
counts in a configured block, for every frame if no interest predicate is given, and else for those on which the predicate
(30_encoding.md R120) holds. A caller's own predicate is a free value, by the model's choice (log entry 5). -/
def Obligations.RepairTakesTheFirstValidTrial : Prop :=
  ∀ (s : State) (ts : Stamp) (f : Frame) (interest : Option Pred),
    let iden : BitVec 12 := (f.bytes[1]?.getD 0) ++ (f.bytes[2]?.getD 0).extractLsb' 4 4
    let interesting : Bool :=
      match interest with
      | none => true
      | some .never => false
      | some .always => true
      | some (.idenEq v) => decide (iden = v)
      | some (.caller n) => callerInterest n f
    let one : Word := if s.configured && interesting then 1 else 0
    (crcValid f.bytes = true → exec (.repair f interest ts) s = .next { s with result := .repaired true f }) ∧
    (crcValid f.bytes = false → (∀ t ∈ repairTrials f, crcValid (applyTrial f.bytes t) = false) →
      exec (.repair f interest ts) s = .next { s with
        result := .repaired false f
        repairStats := { s.repairStats with
          nCorrupt := s.repairStats.nCorrupt + one } }) ∧
    (∀ (before after : List Trial) (t : Trial), crcValid f.bytes = false → repairTrials f = before ++ t :: after →
      (∀ u ∈ before, crcValid (applyTrial f.bytes u) = false) → crcValid (applyTrial f.bytes t) = true →
      exec (.repair f interest ts) s = .next { s with
        result := .repaired true { f with bytes := applyTrial f.bytes t }
        repairStats :=
          { nCorrupt := s.repairStats.nCorrupt + one
            nRepaired := s.repairStats.nRepaired + one
            nOneBit := s.repairStats.nOneBit + (if t.1 = .one then one else 0)
            nTwoConsecutive := s.repairStats.nTwoConsecutive + (if t.1 = .twoConsecutive then one else 0)
            nTwoSeparate := s.repairStats.nTwoSeparate + (if t.1 = .twoSeparate then one else 0)
            nUncertain := s.repairStats.nUncertain + (if t.1 = .uncertain then one else 0) } })

/-- R234: `flipBit` complements bit `7 - (i mod 8)` of byte `i div 8` and nothing else. R235 to R239: the configurations
REPAIR tries and their order: the uncertain bit if it lies after SOF; each bit after SOF, then with the bit before it; the
pairs of boundary bits that are not neighbours, in lexicographic order. Applying one complements exactly the bits it
lists. -/
def Obligations.RepairTrialsFollowTheSearchOrder : Prop :=
  (∀ (bs : List Byte) (i : Nat), i < 8 * bs.length →
    (flipBit bs i).length = bs.length ∧
    ∀ k < bs.length, ∀ j < 8, ((flipBit bs i).getD k 0).getLsbD j =
      ((bs.getD k 0).getLsbD j ^^ decide (k = i / 8 ∧ j = 7 - i % 8))) ∧
  ∀ f : Frame,
    let n := f.bytes.length
    (∀ t, t ∈ repairTrials f ↔
      (∃ u, f.uncertain = some u ∧ 8 ≤ u ∧ u < 8 * n ∧ t = (.uncertain, [u])) ∨
      (∃ i, 8 ≤ i ∧ i < 8 * n ∧ t = (.one, [i])) ∨
      (∃ i, 9 ≤ i ∧ i < 8 * n ∧ t = (.twoConsecutive, [i, i - 1])) ∨
      (∃ i j, i ∈ boundaryBits f.bytes ∧ j ∈ boundaryBits f.bytes ∧ i + 2 ≤ j ∧ t = (.twoSeparate, [i, j]))) ∧
    (repairTrials f).Pairwise (fun a b => trialRank a < trialRank b) ∧
    (∀ i, i ∈ boundaryBits f.bytes ↔ 8 ≤ i ∧ i < 8 * n ∧
      ((0 < rawPos i ∧ (stuffBits f.bytes).getD (rawPos i - 1) false ≠ (stuffBits f.bytes).getD (rawPos i) false) ∨
       (rawPos i + 1 < 10 * n ∧
        (stuffBits f.bytes).getD (rawPos i + 1) false ≠ (stuffBits f.bytes).getD (rawPos i) false))) ∧
    ∀ t ∈ repairTrials f,
      (applyTrial f.bytes t).length = n ∧
      ∀ i < 8 * n, ((applyTrial f.bytes t).getD (i / 8) 0).getLsbD (7 - i % 8) =
        ((f.bytes.getD (i / 8) 0).getLsbD (7 - i % 8) ^^ decide (i ∈ t.2))

/-- R242 (derived there): any single flipped bit after SOF of a valid frame, and any two neighbouring ones, are repaired to
the original frame, whatever the uncertain index. -/
def Obligations.RepairRestoresSingleAndPairFlips : Prop :=
  ∀ (s : State) (ts : Stamp) (bs : List Byte) (u : Option Nat) (interest : Option Pred) (i : Nat),
    bs.length ≤ 33 → crcValid bs = true → 8 ≤ i → i < 8 * bs.length →
    (∃ s', exec (.repair ⟨flipBit bs i, u⟩ interest ts) s = .next s' ∧ s'.result = .repaired true ⟨bs, u⟩) ∧
    (9 ≤ i → ∃ s', exec (.repair ⟨flipBit (flipBit bs i) (i - 1), u⟩ interest ts) s = .next s' ∧
      s'.result = .repaired true ⟨bs, u⟩)

/-! ### The receive decoder -/

/-- R181: every delivered edge writes `prevEdgeTime`, and an edge to level 1 writes `lastBusActivity`, in every
decoder state. -/
def Obligations.EdgePrologueInEveryState : Prop :=
  ∀ (s s' : State) (level : Bit) (ts : Stamp), exec (.evEdge level ts) s = .next s' →
    s.configured = true → s.rxHostEnabled = true → s.rxTxSuspended = false →
    s'.prevEdgeTime = ts.now ∧ s'.lastBusActivity = if level then ts.now else s.lastBusActivity

/-- R362 (log entry 6): an event whose source is off does not reach the block. -/
def Obligations.UndeliveredEventsChangeNothing : Prop :=
  ∀ (s : State) (b : Bit) (ts : Stamp),
    (s.configured = false ∨ s.rxHostEnabled = false ∨ s.rxTxSuspended = true →
      exec (.evEdge b ts) s = .next s) ∧
    (s.configured = false ∨ s.txTimerEnabled = false → exec (.evTxTick b ts) s = .next s) ∧
    (s.ackArmed = false ∨ 2 ^ 31 ≤ (ts.now - s.ackDeadline).toNat → exec (.evAckTimeout ts) s = .next s)

/-- R183: an edge to level 0 in VACANT starts a search with an empty accumulator; an edge to level 1 starts nothing. -/
def Obligations.VacantEdgeStartsASearch : Prop :=
  ∀ (s : State) (slot : RxSlot) (ts : Stamp),
    s.configured = true → s.rxHostEnabled = true → s.rxTxSuspended = false →
    s.rxSlots[s.head]? = some slot → slot.state = .vacant →
    exec (.evEdge false ts) s = .next
      { s with
        prevEdgeTime := ts.now
        readBits := 0
        nBits := 0
        jitter := 0
        rxSlots := s.rxSlots.set s.head { slot with state := .searching } } ∧
    exec (.evEdge true ts) s = .next { s with prevEdgeTime := ts.now, lastBusActivity := ts.now }

/-- R186, R190: a run of more than ten bits is a false start in SEARCHING, and completes the frame with ERROR_NBITS in
LOADING. -/
def Obligations.OverlongRunEndsTheFrame : Prop :=
  ∀ (s : State) (slot : RxSlot) (level : Bit) (ts : Stamp),
    s.configured = true → s.rxHostEnabled = true → s.rxTxSuspended = false →
    s.rxSlots[s.head]? = some slot → 10 < (bitCount s.params (ts.now - s.prevEdgeTime) s.jitter).n →
    (slot.state = .searching → exec (.evEdge level ts) s = .next
      { s with
        prevEdgeTime := ts.now
        lastBusActivity := if level then ts.now else s.lastBusActivity
        readBits := 0
        nBits := 0
        jitter := 0
        rxSlots := s.rxSlots.set s.head { slot with state := .vacant } }) ∧
    (slot.state = .loading → exec (.evEdge level ts) s = complete .errorNBits ts.ms slot
      { s with
        prevEdgeTime := ts.now
        lastBusActivity := if level then ts.now else s.lastBusActivity })

/-- R184: a run of at most ten bits that completes no group is corrected (R188) and appended, of the level the wire held
before the edge. -/
def Obligations.ShortRunIsAppended : Prop :=
  ∀ (s : State) (slot : RxSlot) (level : Bit) (ts : Stamp),
    s.configured = true → s.rxHostEnabled = true → s.rxTxSuspended = false →
    s.rxSlots[s.head]? = some slot → slot.state = .searching ∨ slot.state = .loading →
    let r := bitCount s.params (ts.now - s.prevEdgeTime) s.jitter
    let f := correctRun s.params (!level) s.nBits r slot
    r.n ≤ 10 → s.nBits + f.n < 10 →
    exec (.evEdge level ts) s = .next
      { s with
        prevEdgeTime := ts.now
        lastBusActivity := if level then ts.now else s.lastBusActivity
        jitter := BitVec.ofInt 32 f.jitter
        readBits := (s.readBits <<< f.n) ||| (if level then 0 else BitVec.ofNat 20 (2 ^ f.n - 1))
        nBits := s.nBits + f.n
        rxSlots := s.rxSlots.set s.head f.slot }

/-- R187: the first group of a search: accepted, it is stored as the SOF byte and loading begins; else the search
ends. -/
def Obligations.FirstGroupIsTheSofTest : Prop :=
  ∀ (s : State) (slot : RxSlot) (level : Bit) (ts : Stamp),
    s.configured = true → s.rxHostEnabled = true → s.rxTxSuspended = false →
    s.rxSlots[s.head]? = some slot → slot.state = .searching →
    let r := bitCount s.params (ts.now - s.prevEdgeTime) s.jitter
    let f := correctRun s.params (!level) s.nBits r slot
    let bits : BitVec 20 := (s.readBits <<< f.n) ||| (if level then 0 else BitVec.ofNat 20 (2 ^ f.n - 1))
    let left := s.nBits + f.n - 10
    let g : Group := (bits >>> left).setWidth 10
    r.n ≤ 10 → 10 ≤ s.nBits + f.n →
    (g ∈ s.params.sofAccept → exec (.evEdge level ts) s = .next
      { s with
        prevEdgeTime := ts.now
        lastBusActivity := if level then ts.now else s.lastBusActivity
        jitter := BitVec.ofInt 32 f.jitter
        readBits := bits &&& BitVec.ofNat 20 (2 ^ left - 1)
        nBits := left
        rxSlots := s.rxSlots.set s.head
          { f.slot with
            bytes := writeByte f.slot.bytes 0 0x0E
            size := 1
            state := .loading } }) ∧
    (g ∉ s.params.sofAccept → exec (.evEdge level ts) s = .next
      { s with
        prevEdgeTime := ts.now
        lastBusActivity := if level then ts.now else s.lastBusActivity
        jitter := 0
        readBits := 0
        nBits := 0
        rxSlots := s.rxSlots.set s.head { f.slot with state := .vacant } })

/-- R191, R192: a later group: stored as a byte; with the EOD marker and at least 5 bytes it ends the data and arms the
ACK timer; the 34th completes the frame with ERROR_MAX_PACKET and is not stored. -/
def Obligations.LaterGroupsAreLoaded : Prop :=
  ∀ (s : State) (slot : RxSlot) (level : Bit) (ts : Stamp),
    s.configured = true → s.rxHostEnabled = true → s.rxTxSuspended = false →
    s.rxSlots[s.head]? = some slot → slot.state = .loading →
    let r := bitCount s.params (ts.now - s.prevEdgeTime) s.jitter
    let f := correctRun s.params (!level) s.nBits r slot
    let bits : BitVec 20 := (s.readBits <<< f.n) ||| (if level then 0 else BitVec.ofNat 20 (2 ^ f.n - 1))
    let left := s.nBits + f.n - 10
    let g : Group := (bits >>> left).setWidth 10
    let decoded : State :=
      { s with
        prevEdgeTime := ts.now
        lastBusActivity := if level then ts.now else s.lastBusActivity
        jitter := BitVec.ofInt 32 f.jitter
        readBits := bits &&& BitVec.ofNat 20 (2 ^ left - 1)
        nBits := left }
    let stored : RxSlot :=
      { f.slot with
        bytes := writeByte f.slot.bytes slot.size (g.extractLsb' 6 4 ++ g.extractLsb' 1 4)
        size := slot.size + 1 }
    r.n ≤ 10 → 10 ≤ s.nBits + f.n →
    (slot.size < 33 → (g.extractLsb' 0 2 ∉ s.params.eodAccept ∨ slot.size + 1 < 5) →
      exec (.evEdge level ts) s = .next { decoded with rxSlots := s.rxSlots.set s.head stored }) ∧
    (slot.size < 33 → g.extractLsb' 0 2 ∈ s.params.eodAccept → 5 ≤ slot.size + 1 →
      exec (.evEdge level ts) s = .next
        { decoded with
          ackArmed := true
          ackDeadline := ts.now + BitVec.ofNat 32 s.params.ackTimeout
          rxSlots := s.rxSlots.set s.head { stored with state := .waitingAck } }) ∧
    (33 ≤ slot.size → exec (.evEdge level ts) s = complete .errorMaxPacket ts.ms f.slot decoded)

/-- R188, R189: with the reference table, a run loses one bit and seeds `-T` exactly under the stated predicate; the first
such correction in LOADING flags the frame bit of the shortened run's last bit, or of the bit before it where that is a
check bit. -/
def Obligations.SwallowedCheckBitCorrection : Prop :=
  ∀ (p : Params) (slot : RxSlot) (v : Bit) (o : Nat) (r : BitCount),
    p.runCorrections = referenceCorrections p.t → o ≤ 9 → r.n ≤ 10 →
    slot.state = .searching ∨ slot.state = .loading →
    let illegal := ∃ k, 1 ≤ k ∧ k < r.n ∧ ((o + k) % 10 = 4 ∨ (o + k) % 10 = 9)
    let eodForm := slot.state = .loading ∧ v = false ∧ o = 5 ∧ r.n = 5
    let last := 10 * slot.size + o + (r.n - 1) - 1
    ((r.n = 5 ∨ r.n = 10) ∧ illegal ∧ ¬ eodForm →
      (correctRun p v o r slot).n = r.n - 1 ∧ (correctRun p v o r slot).jitter = -(p.t : Int) ∧
      (slot.state = .searching ∨ slot.uncertain ≠ none → (correctRun p v o r slot).slot = slot) ∧
      (slot.state = .loading → slot.uncertain = none →
        ∃ i, rawPos i = (if last % 10 = 4 ∨ last % 10 = 9 then last - 1 else last) ∧
          (correctRun p v o r slot).slot = if i < 264 then { slot with uncertain := some i } else slot)) ∧
    (¬ ((r.n = 5 ∨ r.n = 10) ∧ illegal ∧ ¬ eodForm) →
      correctRun p v o r slot = { n := r.n, jitter := r.jitter, slot := slot })

/-- R193: a dominant edge in the ACK window completes the frame with `ack = ACK`; any other edge cancels the timer and
is an edge of LOADING. -/
def Obligations.AckPulseOrMoreData : Prop :=
  ∀ (s : State) (slot : RxSlot) (level : Bit) (ts : Stamp),
    s.configured = true → s.rxHostEnabled = true → s.rxTxSuspended = false →
    s.rxSlots[s.head]? = some slot → slot.state = .waitingAck →
    let c : Int := (ts.now - s.prevEdgeTime).toNat
    let pulse := level = false ∧ s.params.ackMin.num ≤ c * s.params.ackMin.den ∧
      c * s.params.ackMax.den < s.params.ackMax.num
    (pulse →
      exec (.evEdge level ts) s = complete .ok ts.ms { slot with ack := .ack }
        { s with prevEdgeTime := ts.now, ackArmed := false }) ∧
    (¬ pulse →
      exec (.evEdge level ts) s = exec (.evEdge level ts)
        { s with
          ackArmed := false
          rxSlots := s.rxSlots.set s.head { slot with state := .loading } })

/-- R194: the ACK timer's expiry, not gated by the RX enables, completes a waiting frame with `ack = NO_ACK` and
`result = OK`. -/
def Obligations.AckTimeoutCompletesTheFrame : Prop :=
  ∀ (s : State) (slot : RxSlot) (ts : Stamp),
    s.ackArmed = true → (ts.now - s.ackDeadline).toNat < 2 ^ 31 → s.rxSlots[s.head]? = some slot →
    (slot.state = .waitingAck → (s.head + 1) % s.q.toNat < s.rxSlots.length →
      ∃ s', exec (.evAckTimeout ts) s = .next s' ∧
        complete .ok ts.ms { slot with ack := .noAck } { s with ackArmed := false } = .next s') ∧
    (slot.state ≠ .waitingAck → exec (.evAckTimeout ts) s = .next { s with ackArmed := false })

/-- R196 to R198: completion takes the sequence number and the time, cancels the timer and resets the decoder; then the
drop policy discards the frame, or `head` advances, overwriting an unread frame it finds. What `isEssential` is of each form
of predicate is log entry 5. -/
def Obligations.CompletionQueuesDropsOrOverwrites : Prop :=
  ∀ (s : State) (slot next : RxSlot) (result : RxResult) (ms : Word),
    let h := (s.head + 1) % s.q.toNat
    let done : RxSlot :=
      { slot with
        result := result
        state := .done
        seqNo := s.rxStats.rxCount
        timestamp := ms }
    let vacant : RxSlot :=
      { state := .vacant
        bytes := []
        size := 0
        result := .ok
        ack := .noAck
        seqNo := 0
        timestamp := 0
        uncertain := none }
    let others := ((List.range s.rxSlots.length).filter fun i =>
      decide (i ≠ s.head) && (s.rxSlots[i]?.any fun x => decide (x.state = .done))).length
    let slots := s.rxSlots.set s.head done
    let base : State :=
      { s with
        ackArmed := false
        readBits := 0
        nBits := 0
        jitter := 0
        rxSlots := slots
        rxStats := { s.rxStats with rxCount := s.rxStats.rxCount + 1 } }
    let highest (xs : List RxSlot) : Word :=
      BitVec.ofNat 32 (max s.rxStats.maxQueued.toNat (xs.filter fun x => decide (x.state = .done)).length)
    let iden : BitVec 12 :=
      (if 1 < slot.size then readByte slot.bytes 1 else 0) ++
        (if 2 < slot.size then readByte slot.bytes 2 else 0).extractLsb' 4 4
    let essential : Bool :=
      match s.isEssential with
      | .never => false
      | .always => true
      | .idenEq v => decide (iden = v)
      | .caller n => callerEssential n done
    let drop := s.dropEnabled = true ∧ s.dropThreshold.toNat < others ∧ essential = false
    s.head < s.rxSlots.length → h ≠ s.head → s.rxSlots[h]? = some next →
    (drop → complete result ms slot s = .next
      { base with
        rxSlots := s.rxSlots.set s.head vacant
        rxStats := { base.rxStats with rxDropped := s.rxStats.rxDropped + 1 } }) ∧
    (¬ drop → next.state = .vacant → complete result ms slot s = .next
      { base with
        head := h
        rxStats := { base.rxStats with maxQueued := highest slots } }) ∧
    (¬ drop → next.state ≠ .vacant → complete result ms slot s = .next
      { base with
        head := h
        overrun := true
        rxSlots := slots.set h vacant
        rxStats :=
          { base.rxStats with
            rxOverwritten := s.rxStats.rxOverwritten + 1
            maxQueued := highest (slots.set h vacant) } })

/-- R364 item 1: an ACK timer that has run out fires before an edge at or after its deadline, as a step of its own (R365;
log entry 7). It completes the frame, and the next step is the edge, which finds the frame complete. -/
def Obligations.DueTimeoutComesBeforeTheEdge : Prop :=
  ∀ (s : State) (slot : RxSlot) (level : Bit) (ts : Stamp) (rest : List Byte),
    RxInv s → s.send = none → decode s.input = .ok (.evEdge level ts, rest) →
    s.rxSlots[s.head]? = some slot → slot.state = .waitingAck → (ts.now - s.ackDeadline).toNat < 2 ^ 31 →
    ∃ s', step s = .next s' ∧
      s'.rxStats.rxCount = s.rxStats.rxCount + 1 ∧ s'.ackArmed = false ∧ s'.input = s.input ∧
      s'.prevEdgeTime = s.prevEdgeTime ∧
      (s.dropEnabled = false → s'.rxSlots[s.head]? = some
        { slot with
          result := .ok
          ack := .noAck
          state := .done
          seqNo := s.rxStats.rxCount
          timestamp := ts.ms }) ∧
      step s' = exec (.evEdge level ts) { s' with input := rest }

/-- R38: what can become of a receive slot's state in one operation of a configured block. A dropped frame passes through
DONE to VACANT in the operation that completes it. -/
def Obligations.RxStateTransitions : Prop :=
  ∀ (s s' : State) (i : Instr) (k : Nat) (a b : RxSlot), LegalParams s.params → RxInv s → s.configured = true →
    exec i s = .next s' → s.rxSlots[k]? = some a → s'.rxSlots[k]? = some b →
    match a.state with
    | .vacant => b.state = .vacant ∨ b.state = .searching
    | .searching => b.state = .searching ∨ b.state = .loading ∨ b.state = .vacant
    | .loading => b.state = .loading ∨ b.state = .waitingAck ∨ b.state = .done ∨ (b.state = .vacant ∧ s.dropEnabled = true)
    | .waitingAck =>
      b.state = .waitingAck ∨ b.state = .loading ∨ b.state = .done ∨ (b.state = .vacant ∧ s.dropEnabled = true)
    | .done => b = a ∨ b.state = .vacant

/-- R301 (derived there): a stream built by PREPARE_PACKET, fed at exact multiples of the bit-time to an idle decoder with
the reference tables, completes one frame with the same bytes, result OK and no uncertain bit. The reference parameters at
`T` are those of log entries 4 and 29. -/
def Obligations.BuiltFramesAreReceivedIntact : Prop :=
  ∀ (s : State) (slot : RxSlot) (iden : BitVec 12) (flags : BitVec 4) (data : List Byte) (len : Byte) (t0 ms : Word),
    s.configured = true → s.rxHostEnabled = true → s.rxTxSuspended = false → s.ackArmed = false →
    s.dropEnabled = false → s.params = paramsAt s.params.t → 0 < s.params.t → 10 * s.params.t < 2 ^ 32 →
    s.rxSlots.length = s.q.toNat → 2 ≤ s.q.toNat → s.rxSlots[s.head]? = some slot → slot = vacantSlot →
    len.toNat ≤ 28 → len.toNat ≤ data.length →
    let f := buildFrame iden flags data len
    ∃ s', feed t0 ms (stuffStream f) s = .next s' ∧ s'.rxSlots[s.head]? = some
      { state := .done
        bytes := bufferOf f
        size := f.length
        result := .ok
        ack := .noAck
        seqNo := s.rxStats.rxCount
        timestamp := ms
        uncertain := none }

/-! ### The transmit side -/

/-- R300: PREPARE_PACKET refuses a bad length; else it builds SOF, IDEN, COM, the first `len` data bytes and the CRC
field, high byte first, and the frame's stream. -/
def Obligations.PreparePacketBuildsTheFrame : Prop :=
  ∀ (s : State) (ts : Stamp) (iden : BitVec 12) (flags : BitVec 4) (data : List Byte) (len : Byte),
    (28 < len.toNat ∨ data.length < len.toNat →
      exec (.preparePacket iden flags data len ts) s = .next { s with result := .prepared false [] [] }) ∧
    (len.toNat ≤ 28 → len.toNat ≤ data.length →
      let f : List Byte := 0x0E :: iden.extractLsb' 4 8 :: (iden.extractLsb' 0 4 ++ flags) :: data.take len.toNat
      let c : BitVec 16 := (~~~(crcBytes (f.drop 1))).setWidth 16 <<< 1
      exec (.preparePacket iden flags data len ts) s = .next { s with
        result := .prepared true (f ++ [c.extractLsb' 8 8, c.extractLsb' 0 8])
          (stuffStream (f ++ [c.extractLsb' 8 8, c.extractLsb' 0 8])) })

/-- R300: the frame PREPARE_PACKET builds passes CHECK_CRC, has `len + 5` bytes and a stream of `10*(len+5) + 10` bits,
and the always-zero bit of its CRC field is 0 (R109). -/
def Obligations.BuiltFramesPassTheCheck : Prop :=
  ∀ (iden : BitVec 12) (flags : BitVec 4) (data : List Byte) (len : Byte),
    len.toNat ≤ 28 → len.toNat ≤ data.length →
    let f := buildFrame iden flags data len
    crcValid f = true ∧ f.length = len.toNat + 5 ∧ (stuffStream f).length = 10 * (len.toNat + 5) + 10 ∧
      frameIdenOf f = iden ∧ frameFlagsOf f = flags ∧ frameDataLenOf f = len.toNat ∧
      (∀ k < len.toNat, frameDataOf f k = data.getD k 0) ∧ (f.getD (len.toNat + 4) 0).getLsbD 0 = false

/-- R302: TX_ENQUEUE fails on a bad length or a full queue; else it puts the frame in the slot at `txHead`, clears the
slot's counters and starts the bit timer. That the buffer's bytes beyond the frame read 0 whatever the slot held before is
the model's choice (log entry 15). -/
def Obligations.TxEnqueueQueuesTheFrame : Prop :=
  ∀ (s : State) (ts : Stamp) (iden : BitVec 12) (flags : BitVec 4) (data : List Byte) (len : Byte),
    (s.configured = false ∨ 28 < len.toNat ∨ data.length < len.toNat →
      exec (.txEnqueue iden flags data len ts) s = .next { s with result := .u1 false }) ∧
    ∀ t : TxSlot, s.configured = true → len.toNat ≤ 28 → len.toNat ≤ data.length → s.txSlots[s.txHead]? = some t →
      (t.state ≠ .done → exec (.txEnqueue iden flags data len ts) s = .next { s with result := .u1 false }) ∧
      (t.state = .done → exec (.txEnqueue iden flags data len ts) s = .next
        { s with
          result := .u1 true
          txSlots := s.txSlots.set s.txHead
            { state := .waiting
              bytes := bufferOf (buildFrame iden flags data len)
              size := len.toNat + 5
              txBits := stuffStream (buildFrame iden flags data len)
              nTxBits := 10 * (len.toNat + 5) + 10
              bitIndex := 0
              collisions := 0
              firstCollisionPos := none
              bitErrors := 0
              busOccupied := 0 }
          txHead := (s.txHead + 1) % s.params.txQ
          txTimerEnabled := true })

/-- R303: SEND_PACKET as issued: a bad length fails at once and counts nothing; a free slot takes the frame; a full queue
with a timeout of 0 counts a drop, and with a longer one leaves the send in flight (log entry 9), `sendSlot` held as 0
(log entry 28). The queued slot's bytes beyond the frame are those of log entry 15. A send that was in flight is ended or
replaced by the new one, which is the model's choice (log entry 20). -/
def Obligations.SendPacketFirstAttempt : Prop :=
  ∀ (s : State) (ts : Stamp) (iden : BitVec 12) (flags : BitVec 4) (data : List Byte) (len : Byte) (timeoutMs : Word),
    (s.configured = false ∨ 28 < len.toNat ∨ data.length < len.toNat →
      exec (.sendPacket iden flags data len timeoutMs ts) s = .next { s with send := none, result := .u1 false }) ∧
    ∀ t : TxSlot, s.configured = true → len.toNat ≤ 28 → len.toNat ≤ data.length → s.txSlots[s.txHead]? = some t →
      (t.state = .done →
        exec (.sendPacket iden flags data len timeoutMs ts) s = .next
          { s with
            send := none
            result := .u1 true
            txSlots := s.txSlots.set s.txHead (queuedSlot (buildFrame iden flags data len) len)
            txHead := (s.txHead + 1) % s.params.txQ
            txTimerEnabled := true }) ∧
      (t.state ≠ .done → timeoutMs = 0 →
        exec (.sendPacket iden flags data len timeoutMs ts) s = .next
          { s with
            send := none
            result := .u1 false
            txStats := { s.txStats with txDropped := s.txStats.txDropped + 1 } }) ∧
      (t.state ≠ .done → timeoutMs ≠ 0 →
        exec (.sendPacket iden flags data len timeoutMs ts) s = .next
          { s with
            result := .pending
            send := some
              { kind := .async
                iden := iden
                flags := flags
                data := data
                len := len
                sendStartMs := ts.ms
                sendTimeoutMs := timeoutMs
                sendPhase := .waitSlot
                sendSlot := 0
                nextPollMs := ts.ms + BitVec.ofNat 32 s.params.pollMs } })

/-- R304: SYNC_SEND_PACKET as issued: as SEND_PACKET, but an accepted frame leaves the send in WAIT_DONE with its slot,
whatever the timeout: the first look at the slot is a pass of its own, due at once (log entries 9 and 10). While it waits
for a slot, `sendSlot` is held as 0 (log entry 28). The queued slot's bytes beyond the frame are those of log entry 15. A
send that was in flight is ended or replaced by the new one, which is the model's choice (log entry 20). -/
def Obligations.SyncSendPacketFirstAttempt : Prop :=
  ∀ (s : State) (ts : Stamp) (iden : BitVec 12) (flags : BitVec 4) (data : List Byte) (len : Byte) (timeoutMs : Word),
    (s.configured = false ∨ 28 < len.toNat ∨ data.length < len.toNat →
      exec (.syncSendPacket iden flags data len timeoutMs ts) s = .next { s with send := none, result := .u1 false }) ∧
    ∀ t : TxSlot, s.configured = true → len.toNat ≤ 28 → len.toNat ≤ data.length → s.txSlots[s.txHead]? = some t →
      (t.state = .done →
        exec (.syncSendPacket iden flags data len timeoutMs ts) s = .next
          { s with
            send := some
              { kind := .sync
                iden := iden
                flags := flags
                data := data
                len := len
                sendStartMs := ts.ms
                sendTimeoutMs := timeoutMs
                sendPhase := .waitDone
                sendSlot := s.txHead
                nextPollMs := ts.ms }
            result := .pending
            txSlots := s.txSlots.set s.txHead (queuedSlot (buildFrame iden flags data len) len)
            txHead := (s.txHead + 1) % s.params.txQ
            txTimerEnabled := true }) ∧
      (t.state ≠ .done →
        exec (.syncSendPacket iden flags data len timeoutMs ts) s = .next
          { s with
            send := if timeoutMs = 0 then none else some
              { kind := .sync
                iden := iden
                flags := flags
                data := data
                len := len
                sendStartMs := ts.ms
                sendTimeoutMs := timeoutMs
                sendPhase := .waitSlot
                sendSlot := 0
                nextPollMs := ts.ms + BitVec.ofNat 32 s.params.pollMs }
            result := if timeoutMs = 0 then .u1 false else .pending
            txStats := if timeoutMs = 0 then { s.txStats with txDropped := s.txStats.txDropped + 1 } else s.txStats })

/-- R303, R304: a later pass of a blocking send: where a slot is free, SEND_PACKET queues its frame and ends, and
SYNC_SEND_PACKET queues it and goes on to WAIT_DONE, its first pass there due at once; where its slot is DONE,
SYNC_SEND_PACKET ends; either ends at the timeout, which counts a drop only while waiting for a slot; else it waits `POLL_MS`
more. With no record placed, or one that the host moves before (log entries 9, 10 and 15). -/
def Obligations.BlockingSendPasses : Prop :=
  ∀ (s : State) (p : Send) (t : TxSlot),
    (s.input = [] ∨ ∃ i rest, decode s.input = .ok (i, rest) ∧ hostFirst i s = true) →
    s.send = some p → s.configured = true →
    badLength p.data p.len = false →
    s.txSlots[if p.sendPhase = .waitSlot then s.txHead else p.sendSlot]? = some t →
    let timedOut := p.sendTimeoutMs.toNat ≤ (p.nextPollMs - p.sendStartMs).toNat
    let again : State :=
      { s with
        result := .pending
        send := some { p with nextPollMs := p.nextPollMs + BitVec.ofNat 32 s.params.pollMs } }
    (t.state ≠ .done → ¬ timedOut → step s = .next again) ∧
    (t.state ≠ .done → timedOut → p.sendPhase = .waitSlot → step s = .next
      { s with
        result := .u1 false
        send := none
        txStats := { s.txStats with txDropped := s.txStats.txDropped + 1 } }) ∧
    (t.state ≠ .done → timedOut → p.sendPhase = .waitDone → step s = .next { s with result := .u1 false, send := none }) ∧
    (t.state = .done → p.sendPhase = .waitDone → step s = .next { s with result := .u1 true, send := none }) ∧
    (t.state = .done → p.sendPhase = .waitSlot → p.kind = .async → step s = .next
      { s with
        result := .u1 true
        send := none
        txSlots := s.txSlots.set s.txHead (queuedSlot (buildFrame p.iden p.flags p.data p.len) p.len)
        txHead := (s.txHead + 1) % s.params.txQ
        txTimerEnabled := true }) ∧
    (t.state = .done → p.sendPhase = .waitSlot → p.kind = .sync → step s = .next
      { s with
        result := .pending
        send := some { p with sendPhase := .waitDone, sendSlot := s.txHead }
        txSlots := s.txSlots.set s.txHead (queuedSlot (buildFrame p.iden p.flags p.data p.len) p.len)
        txHead := (s.txHead + 1) % s.params.txQ
        txTimerEnabled := true })

/-- R306 to R308: a tick that finds no frame stops the timer; one that finds a waiting frame starts it when the bus has
been quiet for more than `(EOF_BITS + IFS_BITS) * T`, and else defers it. That the product is exact, not reduced modulo
2^32, is the model's choice (log entry 27). -/
def Obligations.TickStartsOrDefersAFrame : Prop :=
  ∀ (s : State) (sample : Bit) (ts : Stamp) (t : TxSlot),
    s.configured = true → s.txTimerEnabled = true → s.txSlots[s.txTail]? = some t →
    (t.state = .done → exec (.evTxTick sample ts) s = .next { s with txTimerEnabled := false }) ∧
    (t.state = .waiting → (8 + s.params.ifsBits) * s.params.t < (ts.now - s.lastBusActivity).toNat →
      exec (.evTxTick sample ts) s = .next
        { s with
          rxTxSuspended := true
          txPinLevel := t.txBits.getD 0 false
          txSlots := s.txSlots.set s.txTail { t with state := .sending, bitIndex := 1 } }) ∧
    (t.state = .waiting → (ts.now - s.lastBusActivity).toNat ≤ (8 + s.params.ifsBits) * s.params.t →
      exec (.evTxTick sample ts) s = .next
        { s with
          txSlots := s.txSlots.set s.txTail { t with busOccupied := t.busOccupied + 1 }
          txStats := { s.txStats with txBusOccupied := s.txStats.txBusOccupied + 1 } })

/-- R309 to R313: a sending tick that does not finish the frame: a dominant sample of a recessive bit before the EOD
marker aborts to WAITING; a recessive sample of a dominant one is counted; the next bit is driven. -/
def Obligations.SendingTickChecksAndDrives : Prop :=
  ∀ (s : State) (sample : Bit) (ts : Stamp) (t : TxSlot),
    s.configured = true → s.txTimerEnabled = true → s.txSlots[s.txTail]? = some t → t.state = .sending →
    1 ≤ t.bitIndex →
    let k := t.bitIndex - 1
    let bit := t.txBits.getD k false
    let checked := k + 2 < 10 * t.size
    (checked → sample = false → bit = true → exec (.evTxTick sample ts) s = .next
      { s with
        txPinLevel := true
        rxTxSuspended := false
        lastBusActivity := ts.now
        txSlots := s.txSlots.set s.txTail
          { t with
            collisions := t.collisions + 1
            firstCollisionPos := some (t.firstCollisionPos.getD k)
            state := .waiting
            bitIndex := 0 } }) ∧
    (checked → sample = true → bit = false → t.bitIndex ≠ t.nTxBits → exec (.evTxTick sample ts) s = .next
      { s with
        txPinLevel := t.txBits.getD t.bitIndex false
        txStats := { s.txStats with txBitErrors := s.txStats.txBitErrors + 1 }
        txSlots := s.txSlots.set s.txTail
          { t with bitErrors := t.bitErrors + 1, bitIndex := t.bitIndex + 1 } }) ∧
    (¬ checked ∨ sample = bit → t.bitIndex ≠ t.nTxBits → exec (.evTxTick sample ts) s = .next
      { s with
        txPinLevel := t.txBits.getD t.bitIndex false
        txSlots := s.txSlots.set s.txTail { t with bitIndex := t.bitIndex + 1 } })

/-- R314: the tick after the last bit frees the slot, releases the bus, reattaches reception, refreshes the tracker,
counts the frame, and stops the timer unless the next slot holds a frame. -/
def Obligations.LastTickFinishesTheFrame : Prop :=
  ∀ (s : State) (sample : Bit) (ts : Stamp) (t u : TxSlot),
    s.configured = true → s.txTimerEnabled = true → s.txSlots[s.txTail]? = some t → t.state = .sending →
    t.bitIndex = t.nTxBits → 10 * t.size ≤ t.nTxBits →
    let next := (s.txTail + 1) % s.params.txQ
    (s.txSlots.set s.txTail { t with state := .done })[next]? = some u →
    exec (.evTxTick sample ts) s = .next
      { s with
        txPinLevel := true
        rxTxSuspended := false
        lastBusActivity := ts.now
        txSlots := s.txSlots.set s.txTail { t with state := .done }
        txTail := next
        txTimerEnabled := decide (u.state = .waiting)
        txStats :=
          { s.txStats with
            txSent := s.txStats.txSent + 1
            txSingleCollisions := s.txStats.txSingleCollisions + (if t.collisions = 1 then 1 else 0)
            txMultipleCollisions := s.txStats.txMultipleCollisions + (if 1 < t.collisions.toNat then 1 else 0) } }

/-- R308, R313, R314 and R400: on a quiet bus, with every other node recessive, `10*size + 11` ticks drive exactly the
bits of the frame's stream and finish it. The quiet is measured against the exact product `(EOF_BITS + IFS_BITS) * T`
(log entry 27). -/
def Obligations.AQuietBusSendsTheWholeStream : Prop :=
  ∀ (s : State) (t : TxSlot) (t0 ms : Word), TxInv s → s.configured = true →
    s.txTimerEnabled = true → s.txSlots[s.txTail]? = some t → t.state = .waiting →
    (8 + s.params.ifsBits) * s.params.t < (t0 - s.lastBusActivity).toNat →
    (∀ k < 10 * t.size + 10, ∃ u, ticks t0 ms (k + 1) [] s = .next u ∧
      some u.txPinLevel = (stuffStream (readBytes t.bytes t.size))[k]?) ∧
    ∃ s', ticks t0 ms (10 * t.size + 11) [] s = .next s' ∧ s'.txPinLevel = true ∧ s'.rxTxSuspended = false ∧
      s'.txTail = (s.txTail + 1) % s.params.txQ ∧ s'.txStats.txSent = s.txStats.txSent + 1 ∧
      s'.txStats.txBitErrors = s.txStats.txBitErrors ∧
      s'.lastBusActivity = t0 + BitVec.ofNat 32 ((10 * t.size + 10) * s.params.t) ∧
      ∃ u, s'.txSlots[s.txTail]? = some u ∧ u.state = .done ∧ u.collisions = t.collisions

/-! ### Frames -/

/-- R89 and R367: who may write each field: an operation that changes it is one of those named. The spec does not name the
fields `params`, `input` and `result`: that no operation writes the first two, and no event the third, is the model's
choice (log entries 4, 2 and 11). -/
def Obligations.EveryFieldHasItsWriters : Prop :=
  ∀ (i : Instr) (s s' : State), exec i s = .next s' →
    s'.params = s.params ∧ s'.input = s.input ∧
    (i.op ≠ 0x01 → s'.configured = s.configured ∧ s'.q = s.q ∧ s'.rxPin = s.rxPin ∧ s'.txPin = s.txPin) ∧
    (i.op ∉ [0x01, 0x07, 0x08, 0x26, 0x82] → s'.txSlots = s.txSlots ∧ s'.txTimerEnabled = s.txTimerEnabled) ∧
    (i.op ∉ [0x01, 0x07, 0x08, 0x26] → s'.txHead = s.txHead) ∧
    (i.op ∉ [0x01, 0x82] →
      s'.txTail = s.txTail ∧ s'.rxTxSuspended = s.rxTxSuspended ∧ s'.txPinLevel = s.txPinLevel ∧
      (s'.txTimerEnabled = false → s.txTimerEnabled = false)) ∧
    (i.op = 0x82 → s'.txTimerEnabled = true → s.txTimerEnabled = true) ∧
    (i.op ∉ [0x01, 0x02, 0x03] → s'.rxHostEnabled = s.rxHostEnabled) ∧
    (i.op ∉ [0x01, 0x06] → s'.dropEnabled = s.dropEnabled ∧ s'.dropThreshold = s.dropThreshold ∧
      s'.isEssential = s.isEssential) ∧
    (i.op ∉ [0x01, 0x12] → s'.repairStats = s.repairStats) ∧
    (i.op ∉ [0x01, 0x07, 0x08, 0x82] → s'.txStats = s.txStats) ∧
    (i.op ∉ [0x07, 0x08] → s'.send = s.send) ∧
    (i.op ∉ [0x01, 0x05] → s'.tail = s.tail ∧ (s'.overrun = false → s.overrun = false)) ∧
    (i.op ∉ [0x80, 0x81] → s'.overrun = true → s.overrun = true) ∧
    (i.op ∉ [0x01, 0x80] → s'.prevEdgeTime = s.prevEdgeTime) ∧
    (i.op ∉ [0x01, 0x80, 0x82] → s'.lastBusActivity = s.lastBusActivity) ∧
    (i.op ∉ [0x01, 0x80, 0x81] → s'.head = s.head ∧ s'.readBits = s.readBits ∧ s'.nBits = s.nBits ∧
      s'.jitter = s.jitter ∧ s'.ackArmed = s.ackArmed ∧ s'.ackDeadline = s.ackDeadline ∧ s'.rxStats = s.rxStats) ∧
    (i.op ∉ [0x01, 0x05, 0x80, 0x81] → s'.rxSlots = s.rxSlots) ∧
    (i.op.getLsbD 7 = true → s'.result = s.result)

/-- R80, R86: every byte of both pools keeps its value, but for the slots the operation writes: RECEIVE clears the slot
at `tail`, an enqueue fills the slot at `txHead`, an event may clear the slots at `head` and after it, and an edge that
completes no frame stores at most one byte, at the end of the frame at `head`. SETUP, which allocates the pools, is
left out. -/
def Obligations.EveryOtherByteOfTheBuffersIsKept : Prop :=
  ∀ (i : Instr) (s s' : State), exec i s = .next s' → i.op ≠ 0x01 → ∀ (a k : Nat),
    (i.op ∉ [0x05, 0x80, 0x81] → s'.memByte .rx a k = s.memByte .rx a k) ∧
    (i.op ∉ [0x07, 0x08, 0x26] → s'.memByte .tx a k = s.memByte .tx a k) ∧
    (i.op = 0x05 → a ≠ s.tail → s'.memByte .rx a k = s.memByte .rx a k) ∧
    (i.op = 0x07 ∨ i.op = 0x08 ∨ i.op = 0x26 → a ≠ s.txHead → s'.memByte .tx a k = s.memByte .tx a k) ∧
    (i.op = 0x80 ∨ i.op = 0x81 → a ≠ s.head → a ≠ (s.head + 1) % s.q.toNat →
      s'.memByte .rx a k = s.memByte .rx a k) ∧
    (∀ slot, i.op = 0x80 → s'.rxStats.rxCount = s.rxStats.rxCount → s.rxSlots[s.head]? = some slot →
      a ≠ s.head ∨ k ≠ (if slot.state = .searching then 0 else slot.size) →
      s'.memByte .rx a k = s.memByte .rx a k)

/-! ### Invariants and safety -/

/-- 10_state.md R54 and the rules of the receive side (`RxInv`): every step keeps it in a legal build. -/
def Obligations.EveryStepKeepsTheReceiveInvariant : Prop :=
  ∀ s s' : State, LegalParams s.params → RxInv s → step s = .next s' → RxInv s'

/-- 10_state.md R54 and the rules of the transmit side (`TxInv`): every step keeps it in a legal build. Two of its clauses
rest on choices of the model: the bytes of a buffer beyond its frame are 0 (log entry 15), and `sendSlot` is 0 while a send
waits for a slot (log entry 28). -/
def Obligations.EveryStepKeepsTheTransmitInvariant : Prop :=
  ∀ s s' : State, LegalParams s.params → TxInv s → step s = .next s' → TxInv s'

/-- The reset state is good: its parameters, which are the model's choice (log entry 4), are legal, and both invariants
hold. -/
def Obligations.ResetIsGood : Prop := Good State.reset

/-- Every step keeps every frame buffer canonical and within 33 bytes, from any state where they are (20_memory.md R84,
42_rx_decoder.md R191; log entry 15); at reset they are. -/
def Obligations.EveryStepKeepsTheBuffersCanonical : Prop :=
  BuffersWf State.reset ∧ ∀ s s' : State, BuffersWf s → step s = .next s' → BuffersWf s'

/-- R54 item 8 and R92: while no unread frame is overwritten and the sequence number does not wrap, the unread frames
stay in order from `tail` on. They are in order in the reset state by the model's choice of 0 for `head` and `tail` there
(log entry 3). -/
def Obligations.UnreadFramesStayInOrder : Prop :=
  InOrder State.reset ∧
  ∀ s s' : State, LegalParams s.params → RxInv s → InOrder s → step s = .next s' →
    s'.rxStats.rxOverwritten = s.rxStats.rxOverwritten → s.rxStats.rxCount.toNat ≤ s'.rxStats.rxCount.toNat →
    InOrder s'

/-- R54 item 3 and R272 items 1 and 2: at most `Q - 1` frames are unread, and in order AVAILABLE is 1 iff there is
one. -/
def Obligations.UnreadFramesAreBoundedAndAvailable : Prop :=
  ∀ s : State, RxInv s → s.configured = true →
    s.nQueued + 1 ≤ s.q.toNat ∧
    (InOrder s → ∀ ts, ∃ b, exec (.available ts) s = .next { s with result := .u1 b } ∧ (b = true ↔ 0 < s.nQueued))

/-- R350: from a good state no step ends in a fault. The two faults, for what the spec says cannot happen, are the model's
(log entry 12). -/
def Obligations.GoodStatesNeverFault : Prop :=
  ∀ (s : State) (r : Fault), Good s → step s ≠ .fault r

/-! ### Codes and text -/

/-- R120: every record the assembler writes is one operation, with nothing after it, at the line's instant. -/
def Obligations.AssembledRecordsDecode : Prop :=
  ∀ (prev ts : Stamp) (text : List Char) (bs : List Byte), assembleLine prev text = some (ts, .record bs) →
    ∃ i, decode bs = .ok (i, []) ∧ i.wellFormed = true ∧ i.stamp = ts

end
end

