-- ==== Sys2Proof/Laws/Cycles.lean ====
section
/-! SUPPORT. Exact cycle counts: when a number lies below one, what rounding up gives, and that the scaled reference
bands are the reference bands of the scaled bit-time (40_bit_time_decoder.md R142, R148). -/

namespace Sys2Proof.Machine

open Sys2Proof.Config

@[simp] theorem isBelow_iff (v : Int) (c : Cycles) : isBelow v c = true ↔ v * c.den < c.num := by simp [isBelow]

/-- Reference band `k` holds the `e` with `2e < (2k+1)*T` that no earlier band holds (R142). -/
theorem isBelow_halfBitBound (t k : Nat) (e : Int) :
    isBelow e (halfBitBound t k) = true ↔ 2 * e < (2 * k + 1) * t := by
  simp [halfBitBound, halfCycles]
  omega

/-- Rounding up: the least whole number of cycles that is not below `c`. -/
theorem wholeCycles_le_iff {c : Cycles} (hd : 0 < c.den) (w : Nat) : wholeCycles c ≤ w ↔ c.num ≤ w * c.den := by
  have hd' : (0 : Int) < c.den := by exact_mod_cast hd
  rw [wholeCycles, Int.toNat_le, ← Int.lt_add_one_iff, Int.ediv_lt_iff_lt_mul hd', Int.add_mul]
  omega

/-- A bound scaled by `num / den` is compared as the exact product (R148). -/
theorem isBelow_scaleCycles (num den : Nat) (c : Cycles) (v : Int) :
    isBelow v (scaleCycles num den c) = true ↔ v * (den * c.den) < num * c.num := by
  simp [scaleCycles]

/-- Where `F * T` is a whole number of cycles, scaling the reference bound of band `k` gives the bound at `F * T`
(R148). -/
theorem isBelow_scaled_halfBitBound {num den t t' : Nat} (hd : 0 < den) (h : num * t = den * t') (k : Nat) (v : Int) :
    isBelow v (scaleCycles num den (halfBitBound t k)) = isBelow v (halfBitBound t' k) := by
  have hd' : (0 : Int) < den := by exact_mod_cast hd
  have hz : (num : Int) * t = den * t' := by exact_mod_cast h
  rw [Bool.eq_iff_iff, isBelow_scaleCycles, isBelow_halfBitBound]
  simp only [halfBitBound, halfCycles]
  push_cast
  rw [show (num : Int) * ((2 * k + 1) * t) = den * ((2 * k + 1) * t') by linear_combination (2 * (k : Int) + 1) * hz,
    show v * ((den : Int) * 2) = den * (2 * v) by ring, mul_lt_mul_iff_right₀ hd']

end Sys2Proof.Machine
end

