-- ==== Sys2Proof/Laws/Decode.lean ====
section
/-! SUPPORT. Each operand type reads back what its encoder wrote, whatever bytes follow; no record is longer than
`maxRecord`. -/

namespace Sys2Proof

@[simp] theorem andThen_ok {α β : Type} (a : α) (bs : List Byte) (k : α → List Byte → Parsed β) :
    andThen (.ok (a, bs)) k = k a bs := rfl

@[simp] theorem andThen_error {α β : Type} (e : DecodeError) (k : α → List Byte → Parsed β) :
    andThen (.error e) k = .error e := rfl

@[simp] theorem getU8_put (v : Byte) (bs : List Byte) : getU8 (putU8 v ++ bs) = .ok (v, bs) := rfl

@[simp] theorem getU8_cons (v : Byte) (bs : List Byte) : getU8 (v :: bs) = .ok (v, bs) := rfl

@[simp] theorem getU16_put (v : BitVec 16) (bs : List Byte) : getU16 (putU16 v ++ bs) = .ok (v, bs) := by
  have : v.extractLsb' 8 8 ++ v.extractLsb' 0 8 = v := by
    ext i hi
    simp only [BitVec.getElem_append, BitVec.getElem_extractLsb', Nat.zero_add]
    split
    · exact BitVec.getLsbD_eq_getElem _
    · rw [show 8 + (i - 8) = i by omega]; exact BitVec.getLsbD_eq_getElem _
  simp [putU16, getU16, this]

@[simp] theorem getU32_put (v : Word) (bs : List Byte) : getU32 (putU32 v ++ bs) = .ok (v, bs) := by
  have : v.extractLsb' 24 8 ++ v.extractLsb' 16 8 ++ v.extractLsb' 8 8 ++ v.extractLsb' 0 8 = v := by
    ext i hi
    simp only [BitVec.getElem_append, BitVec.getElem_extractLsb', Nat.zero_add]
    split
    · exact BitVec.getLsbD_eq_getElem _
    · split
      · rw [show 8 + (i - 8) = i by omega]; exact BitVec.getLsbD_eq_getElem _
      · split
        · rw [show 16 + (i - 8 - 8) = i by omega]; exact BitVec.getLsbD_eq_getElem _
        · rw [show 24 + (i - 8 - 8 - 8) = i by omega]; exact BitVec.getLsbD_eq_getElem _
  simp [putU32, getU32, this]

@[simp] theorem getU1_put (v : Bit) (bs : List Byte) : getU1 (putU1 v ++ bs) = .ok (v, bs) := by
  cases v <;> rfl

@[simp] theorem getU4_put (v : BitVec 4) (bs : List Byte) : getU4 (putU4 v ++ bs) = .ok (v, bs) := by
  have h := v.isLt
  have e : (v.setWidth 8).toNat = v.toNat := by simp [BitVec.toNat_setWidth]; omega
  have r : (v.setWidth 8).setWidth 4 = v := by ext i hi; simp
  simp [getU4, putU4, e, r]
  omega

@[simp] theorem getU10_put (v : Group) (bs : List Byte) : getU10 (putU10 v ++ bs) = .ok (v, bs) := by
  have h := v.isLt
  have e : (v.setWidth 16).toNat = v.toNat := by simp [BitVec.toNat_setWidth]; omega
  have r : (v.setWidth 16).setWidth 10 = v := by ext i hi; simp
  simp [getU10, putU10, e, r]
  omega

@[simp] theorem getU12_put (v : BitVec 12) (bs : List Byte) : getU12 (putU12 v ++ bs) = .ok (v, bs) := by
  have h := v.isLt
  have e : (v.setWidth 16).toNat = v.toNat := by simp [BitVec.toNat_setWidth]; omega
  have r : (v.setWidth 16).setWidth 12 = v := by ext i hi; simp
  simp [getU12, putU12, e, r]
  omega

theorem getMany_append (xs bs : List Byte) : getMany xs.length (xs ++ bs) = .ok (xs, bs) := by
  induction xs with
  | nil => rfl
  | cons x xs ih => simp [getMany, ih]

theorem getBytes_put (xs bs : List Byte) (h : bytesOk xs = true) : getBytes (putBytes xs ++ bs) = .ok (xs, bs) := by
  have h : xs.length ≤ 33 := by simpa [bytesOk] using h
  have e : (BitVec.ofNat 8 xs.length).toNat = xs.length := by rw [BitVec.toNat_ofNat]; omega
  simp only [getBytes, putBytes, List.cons_append, getU8_cons, andThen_ok, e, if_pos h, getMany_append]

theorem getUncertain_put (u : Option Nat) (bs : List Byte) (h : uncertainOk u = true) :
    getUncertain (putUncertain u ++ bs) = .ok (u, bs) := by
  cases u with
  | none => simp [getUncertain, putUncertain]
  | some i =>
    have h : i < 264 := by simpa [uncertainOk] using h
    have e : (BitVec.ofNat 16 i).toNat = i := by rw [BitVec.toNat_ofNat]; omega
    simp only [getUncertain, putUncertain, List.append_assoc, getU1_put, andThen_ok, if_true, getU16_put, e, if_pos h]

theorem getFrame_put (f : Frame) (bs : List Byte) (h : frameOk f = true) :
    getFrame (putFrame f ++ bs) = .ok (f, bs) := by
  simp only [frameOk, Bool.and_eq_true] at h
  simp only [getFrame, putFrame, List.append_assoc, getBytes_put _ _ h.1, getUncertain_put _ _ h.2, andThen_ok]

@[simp] theorem getPred_put (p : Pred) (bs : List Byte) : getPred (putPred p ++ bs) = .ok (p, bs) := by
  cases p <;> simp [getPred, putPred, putPredFrom, getPredBody]

@[simp] theorem getOptPred_put (p : Option Pred) (bs : List Byte) :
    getOptPred (putOptPred p ++ bs) = .ok (p, bs) := by
  rcases p with _ | p
  · rfl
  · cases p <;> simp [getOptPred, putOptPred, putPredFrom, getPredBody]

@[simp] theorem getStamp_put (ts : Stamp) (bs : List Byte) : getStamp (putStamp ts ++ bs) = .ok (ts, bs) := by
  simp [getStamp, putStamp]

/-! ### Lengths -/

theorem putBytes_length (xs : List Byte) : (putBytes xs).length = xs.length + 1 := rfl

theorem putFrame_length_le (f : Frame) (h : frameOk f = true) : (putFrame f).length ≤ 37 := by
  simp only [frameOk, bytesOk, Bool.and_eq_true, decide_eq_true_eq] at h
  rcases f with ⟨bs, _ | u⟩ <;> simp [putFrame, putBytes, putUncertain, putU1, putU16] at h ⊢ <;> omega

/-- No record of a well-formed operation is longer than `maxRecord` bytes. -/
theorem encode_length_le (i : Instr) (h : i.wellFormed = true) : (encode i).length ≤ maxRecord := by
  have hp : ∀ (k : Byte) (p : Pred), (putPredFrom k p).length ≤ 5 := by
    intro k p
    cases p <;> simp [putPredFrom, putU12, putU16, putU32]
  have ho : ∀ p : Option Pred, (putOptPred p).length ≤ 5 := by
    intro p
    rcases p with _ | p
    · simp [putOptPred]
    · exact hp 1 p
  cases i <;>
    simp only [Instr.wellFormed, bytesOk, decide_eq_true_eq] at h <;>
    simp [encode, Instr.operandBytes, putStamp, putU32, putU16, putU12, putU10, putU8, putU4, putU1, putPred,
      putBytes, maxRecord] <;>
    (try have := putFrame_length_le _ h) <;>
    (try omega)
  · have := hp 0#8 ‹Pred›
    omega
  · have := ho ‹Option Pred›
    omega

end Sys2Proof
end

