-- ==== Sys2Proof/Laws/Memory.lean ====
section
/-! SUPPORT. The laws of frame buffers: reading after writing, the canonical form and its preservation, and that
equal buffers are equal data. -/

namespace Sys2Proof.Machine

/-! ### Reading after writing -/

@[simp] theorem readByte_nil (a : Nat) : readByte [] a = 0 := rfl

theorem readByte_of_cellsWf_lt {m : Memory} {lo hi a : Nat} (h : cellsWf m lo hi = true) (ha : a < lo) :
    readByte m a = 0 := by
  induction m generalizing lo with
  | nil => rfl
  | cons c m ih =>
    obtain ⟨b, v⟩ := c
    simp only [cellsWf, Bool.and_eq_true, decide_eq_true_eq] at h
    obtain ⟨⟨⟨h1, h2⟩, h3⟩, h4⟩ := h
    rw [readByte, if_neg (by omega)]
    exact ih h4 (by omega)

theorem readByte_of_cellsWf_ge {m : Memory} {lo hi a : Nat} (h : cellsWf m lo hi = true) (ha : hi ≤ a) :
    readByte m a = 0 := by
  induction m generalizing lo with
  | nil => rfl
  | cons c m ih =>
    obtain ⟨b, v⟩ := c
    simp only [cellsWf, Bool.and_eq_true, decide_eq_true_eq] at h
    obtain ⟨⟨⟨h1, h2⟩, h3⟩, h4⟩ := h
    rw [readByte, if_neg (by omega)]
    exact ih h4

/-- A byte that was just written reads as written. -/
theorem readByte_writeByte_same {m : Memory} {lo hi : Nat} (h : cellsWf m lo hi = true) (a : Nat) (v : Byte) :
    readByte (writeByte m a v) a = v := by
  induction m generalizing lo with
  | nil => unfold writeByte; split <;> simp_all [readByte]
  | cons c m ih =>
    obtain ⟨b, w⟩ := c
    simp only [cellsWf, Bool.and_eq_true, decide_eq_true_eq] at h
    obtain ⟨⟨⟨h1, h2⟩, h3⟩, h4⟩ := h
    have low : ∀ k, k ≤ b → readByte m k = 0 := fun k hk => readByte_of_cellsWf_lt h4 (by omega)
    unfold writeByte
    split
    · split
      · rename_i hab hv
        rw [readByte, if_neg (by omega), low a (by omega), hv]
      · simp [readByte]
    · split
      · rename_i hab
        split
        · rename_i hv
          rw [low a (by omega), hv]
        · simp [readByte]
      · rename_i h5 h6
        rw [readByte, if_neg (by omega)]
        exact ih h4

/-- A write leaves every other byte as it was. -/
theorem readByte_writeByte_other (m : Memory) {a k : Nat} (v : Byte) (hk : k ≠ a) :
    readByte (writeByte m a v) k = readByte m k := by
  induction m with
  | nil => unfold writeByte; split <;> simp [readByte]; omega
  | cons c m ih =>
    obtain ⟨b, w⟩ := c
    unfold writeByte
    split
    · split
      · rfl
      · rw [readByte, if_neg (by omega)]
    · split
      · rename_i hab
        split
        · rw [readByte, if_neg (by omega)]
        · rw [readByte, if_neg (by omega), readByte, if_neg (by omega)]
      · rw [readByte, readByte, ih]

/-! ### The canonical form -/

theorem cellsWf_mono {m : Memory} {lo hi lo' hi' : Nat} (h : cellsWf m lo hi = true) (h1 : lo' ≤ lo) (h2 : hi ≤ hi') :
    cellsWf m lo' hi' = true := by
  induction m generalizing lo lo' with
  | nil => rfl
  | cons c m ih =>
    obtain ⟨b, v⟩ := c
    simp only [cellsWf, Bool.and_eq_true, decide_eq_true_eq] at h ⊢
    exact ⟨⟨⟨by omega, by omega⟩, h.1.2⟩, ih h.2 (le_refl _)⟩

/-- A write below the bound keeps the canonical form. -/
theorem cellsWf_writeByte {m : Memory} {lo hi a : Nat} (v : Byte) (h : cellsWf m lo hi = true) (h1 : lo ≤ a)
    (h2 : a < hi) : cellsWf (writeByte m a v) lo hi = true := by
  induction m generalizing lo with
  | nil =>
    unfold writeByte
    split
    · rfl
    · rename_i hv
      simpa [cellsWf, h1, h2] using hv
  | cons c m ih =>
    obtain ⟨b, w⟩ := c
    have h' := h
    simp only [cellsWf, Bool.and_eq_true, decide_eq_true_eq] at h'
    obtain ⟨⟨⟨g1, g2⟩, g3⟩, g4⟩ := h'
    unfold writeByte
    split
    · rename_i hab
      split
      · exact h
      · rename_i hv
        simp only [cellsWf, Bool.and_eq_true, decide_eq_true_eq]
        exact ⟨⟨⟨h1, h2⟩, hv⟩, ⟨⟨by omega, g2⟩, g3⟩, g4⟩
    · split
      · rename_i hab
        split
        · exact cellsWf_mono g4 (by omega) (le_refl _)
        · rename_i hv
          simp only [cellsWf, Bool.and_eq_true, decide_eq_true_eq]
          exact ⟨⟨⟨h1, h2⟩, hv⟩, by subst hab; exact g4⟩
      · simp only [cellsWf, Bool.and_eq_true, decide_eq_true_eq]
        exact ⟨⟨⟨g1, g2⟩, g3⟩, ih g4 (by omega)⟩

theorem memoryWf_nil (n : Nat) : memoryWf [] n = true := rfl

theorem memoryWf_mono {m : Memory} {n k : Nat} (h : memoryWf m n = true) (hk : n ≤ k) : memoryWf m k = true :=
  cellsWf_mono h (le_refl _) hk

/-- Storing byte `n` of a buffer whose first `n` bytes are in use keeps the canonical form. -/
theorem memoryWf_writeByte_end {m : Memory} {n : Nat} (v : Byte) (h : memoryWf m n = true) :
    memoryWf (writeByte m n v) (n + 1) = true :=
  cellsWf_writeByte v (cellsWf_mono h (le_refl _) (Nat.le_succ n)) (Nat.zero_le _) (Nat.lt_succ_self n)

theorem memoryWf_writeByte {m : Memory} {n a : Nat} (v : Byte) (h : memoryWf m n = true) (ha : a < n) :
    memoryWf (writeByte m a v) n = true := cellsWf_writeByte v h (Nat.zero_le _) ha

/-- Two canonical buffers that read alike are equal data. -/
theorem cellsWf_ext {m m' : Memory} {lo hi hi' : Nat} (h : cellsWf m lo hi = true) (h' : cellsWf m' lo hi' = true)
    (hr : ∀ a, readByte m a = readByte m' a) : m = m' := by
  induction m generalizing lo m' with
  | nil =>
    cases m' with
    | nil => rfl
    | cons c m' =>
      obtain ⟨b, v⟩ := c
      simp only [cellsWf, Bool.and_eq_true, decide_eq_true_eq] at h'
      have := hr b
      simp only [readByte, if_true] at this
      exact absurd this.symm h'.1.2
  | cons c m ih =>
    obtain ⟨b, v⟩ := c
    have g := h
    simp only [cellsWf, Bool.and_eq_true, decide_eq_true_eq] at g
    cases m' with
    | nil =>
      have := hr b
      simp only [readByte, if_true] at this
      exact absurd this g.1.2
    | cons c' m' =>
      obtain ⟨b', v'⟩ := c'
      have g' := h'
      simp only [cellsWf, Bool.and_eq_true, decide_eq_true_eq] at g'
      have hb : b = b' := by
        rcases Nat.lt_trichotomy b b' with hlt | heq | hgt
        · have := hr b
          rw [readByte, if_pos rfl, readByte, if_neg (by omega), readByte_of_cellsWf_lt g'.2 (by omega)] at this
          exact absurd this g.1.2
        · exact heq
        · have := hr b'
          rw [readByte, if_neg (by omega), readByte_of_cellsWf_lt g.2 (by omega), readByte, if_pos rfl] at this
          exact absurd this.symm g'.1.2
      subst hb
      have hv : v = v' := by simpa [readByte] using hr b
      subst hv
      have := ih (m' := m') g.2 g'.2 (fun a => by
        by_cases hab : b = a
        · subst hab
          rw [readByte_of_cellsWf_lt g.2 (by omega), readByte_of_cellsWf_lt g'.2 (by omega)]
        · have := hr a
          rwa [readByte, if_neg hab, readByte, if_neg hab] at this)
      rw [this]

/-! ### Whole buffers -/

theorem cellsWf_cellsFrom (k : Nat) (bs : List Byte) : cellsWf (cellsFrom k bs) k (k + bs.length) = true := by
  induction bs generalizing k with
  | nil => rfl
  | cons b bs ih =>
    have := ih (k + 1)
    unfold cellsFrom
    split
    · exact cellsWf_mono this (by omega) (by simp only [List.length_cons]; omega)
    · rename_i hb
      simp only [cellsWf, Bool.and_eq_true, decide_eq_true_eq, List.length_cons]
      exact ⟨⟨⟨le_refl _, by omega⟩, hb⟩, cellsWf_mono this (le_refl _) (by omega)⟩

/-- A buffer of `n` bytes is in canonical form. -/
theorem memoryWf_bufferOf (bs : List Byte) : memoryWf (bufferOf bs) bs.length = true := by
  simpa [memoryWf, bufferOf] using cellsWf_cellsFrom 0 bs

theorem readByte_cellsFrom (k : Nat) (bs : List Byte) (a : Nat) (ha : k ≤ a) :
    readByte (cellsFrom k bs) a = bs.getD (a - k) 0 := by
  induction bs generalizing k with
  | nil => simp [cellsFrom]
  | cons b bs ih =>
    unfold cellsFrom
    by_cases hka : k = a
    · subst hka
      split
      · rename_i hb
        rw [readByte_of_cellsWf_lt (cellsWf_cellsFrom (k + 1) bs) (by omega)]
        simp [hb]
      · simp [readByte]
    · obtain ⟨d, rfl⟩ : ∃ d, a = k + 1 + d := ⟨a - k - 1, by omega⟩
      have e : k + 1 + d - k = d + 1 := by omega
      have e' : k + 1 + d - (k + 1) = d := by omega
      split
      · rw [ih _ (by omega), e, e', List.getD_cons_succ]
      · rw [readByte, if_neg hka, ih _ (by omega), e, e', List.getD_cons_succ]

/-- Byte `a` of a stored frame is its byte `a`, and 0 beyond its end. -/
theorem readByte_bufferOf (bs : List Byte) (a : Nat) : readByte (bufferOf bs) a = bs.getD a 0 := by
  rw [bufferOf, readByte_cellsFrom 0 bs a (Nat.zero_le _), Nat.sub_zero]

@[simp] theorem readBytes_length (m : Memory) (n : Nat) : (readBytes m n).length = n := by simp [readBytes]

@[simp] theorem readBytes_zero (m : Memory) : readBytes m 0 = [] := rfl

theorem readBytes_getD (m : Memory) {n k : Nat} (hk : k < n) : (readBytes m n).getD k 0 = readByte m k := by
  simp [readBytes, List.getD, hk]

/-- The stored frame, read back. -/
theorem readBytes_bufferOf (bs : List Byte) : readBytes (bufferOf bs) bs.length = bs := by
  refine List.ext_getElem (by simp) fun i h1 h2 => ?_
  simp [readBytes, readByte_bufferOf, h2]

/-- Storing one more byte appends it to what is read. -/
theorem readBytes_writeByte_end {m : Memory} {n : Nat} (v : Byte) (h : memoryWf m n = true) :
    readBytes (writeByte m n v) (n + 1) = readBytes m n ++ [v] := by
  rw [readBytes, List.range_succ, List.map_append, List.map_singleton, readByte_writeByte_same h]
  congr 1
  refine List.map_congr_left fun k hk => readByte_writeByte_other m v ?_
  have := List.mem_range.1 hk
  omega

/-! ### Pools -/

theorem memByte_rx (s : State) (i k : Nat) :
    s.memByte .rx i k = match s.rxSlots[i]? with | none => 0 | some slot => readByte slot.bytes k := rfl

theorem memByte_tx (s : State) (i k : Nat) :
    s.memByte .tx i k = match s.txSlots[i]? with | none => 0 | some slot => readByte slot.bytes k := rfl

/-- Writing a slot leaves every other buffer of its pool as it was. -/
theorem memByte_putRx_other (s : State) {i j : Nat} (slot : RxSlot) (k : Nat) (h : i ≠ j) :
    (s.putRx i slot).memByte .rx j k = s.memByte .rx j k := by
  simp [memByte_rx, State.putRx, List.getElem?_set_ne h]

theorem memByte_putTx_other (s : State) {i j : Nat} (slot : TxSlot) (k : Nat) (h : i ≠ j) :
    (s.putTx i slot).memByte .tx j k = s.memByte .tx j k := by
  simp [memByte_tx, State.putTx, List.getElem?_set_ne h]

end Sys2Proof.Machine
end

