-- ==== Sys2Proof/Laws/PerInstr.lean ====
section
/-! SUPPORT. Statements about every instruction as syntax, one lemma per constructor of `Instr`. The family `OpAssigned`
says that an operation's code is assigned (30_encoding.md R118) and that its bit 7 tells events from commands
(R115). -/

namespace Sys2Proof.Laws.OpAssigned

/-- The unassigned codes: 0x00, 0x0E..0x0F, 0x17..0x1F, 0x28..0x7F, 0x83..0xFF (R118). -/
def unassigned (op : Byte) : Bool :=
  decide (op.toNat = 0) || (decide (0x0E ≤ op.toNat) && decide (op.toNat ≤ 0x0F)) ||
    (decide (0x17 ≤ op.toNat) && decide (op.toNat ≤ 0x1F)) || (decide (0x28 ≤ op.toNat) && decide (op.toNat ≤ 0x7F)) ||
    decide (0x83 ≤ op.toNat)

/-- The code is assigned, it is the first byte of the record, and its bit 7 marks an event. -/
def Statement (i : Instr) : Prop :=
  unassigned i.op = false ∧ (encode i).head? = some i.op ∧ (i.isEvent = true ↔ 0x80 ≤ i.op.toNat)

theorem setup (rxPin txPin capacity : Word) (ts : Stamp) : Statement (.setup rxPin txPin capacity ts) := by
  refine ⟨rfl, rfl, ?_⟩; simp [Instr.isEvent, Instr.op]

theorem enable (ts : Stamp) : Statement (.enable ts) := by
  refine ⟨rfl, rfl, ?_⟩; simp [Instr.isEvent, Instr.op]

theorem disable (ts : Stamp) : Statement (.disable ts) := by
  refine ⟨rfl, rfl, ?_⟩; simp [Instr.isEvent, Instr.op]

theorem available (ts : Stamp) : Statement (.available ts) := by
  refine ⟨rfl, rfl, ?_⟩; simp [Instr.isEvent, Instr.op]

theorem receive (ts : Stamp) : Statement (.receive ts) := by
  refine ⟨rfl, rfl, ?_⟩; simp [Instr.isEvent, Instr.op]

theorem setDropPolicy (threshold : Word) (essential : Pred) (ts : Stamp) :
    Statement (.setDropPolicy threshold essential ts) := by
  refine ⟨rfl, rfl, ?_⟩; simp [Instr.isEvent, Instr.op]

theorem sendPacket (iden : BitVec 12) (flags : BitVec 4) (data : List Byte) (len : Byte) (timeoutMs : Word) (ts : Stamp) :
    Statement (.sendPacket iden flags data len timeoutMs ts) := by
  refine ⟨rfl, rfl, ?_⟩; simp [Instr.isEvent, Instr.op]

theorem syncSendPacket (iden : BitVec 12) (flags : BitVec 4) (data : List Byte) (len : Byte) (timeoutMs : Word) (ts : Stamp) :
    Statement (.syncSendPacket iden flags data len timeoutMs ts) := by
  refine ⟨rfl, rfl, ?_⟩; simp [Instr.isEvent, Instr.op]

theorem getCount (ts : Stamp) : Statement (.getCount ts) := by
  refine ⟨rfl, rfl, ?_⟩; simp [Instr.isEvent, Instr.op]

theorem queueSize (ts : Stamp) : Statement (.queueSize ts) := by
  refine ⟨rfl, rfl, ?_⟩; simp [Instr.isEvent, Instr.op]

theorem getNQueued (ts : Stamp) : Statement (.getNQueued ts) := by
  refine ⟨rfl, rfl, ?_⟩; simp [Instr.isEvent, Instr.op]

theorem getMaxQueued (ts : Stamp) : Statement (.getMaxQueued ts) := by
  refine ⟨rfl, rfl, ?_⟩; simp [Instr.isEvent, Instr.op]

theorem dumpStats (ts : Stamp) : Statement (.dumpStats ts) := by
  refine ⟨rfl, rfl, ?_⟩; simp [Instr.isEvent, Instr.op]

theorem crc (f : Frame) (ts : Stamp) : Statement (.crc f ts) := by
  refine ⟨rfl, rfl, ?_⟩; simp [Instr.isEvent, Instr.op]

theorem checkCrc (f : Frame) (ts : Stamp) : Statement (.checkCrc f ts) := by
  refine ⟨rfl, rfl, ?_⟩; simp [Instr.isEvent, Instr.op]

theorem repair (f : Frame) (interest : Option Pred) (ts : Stamp) : Statement (.repair f interest ts) := by
  refine ⟨rfl, rfl, ?_⟩; simp [Instr.isEvent, Instr.op]

theorem frameIden (f : Frame) (ts : Stamp) : Statement (.frameIden f ts) := by
  refine ⟨rfl, rfl, ?_⟩; simp [Instr.isEvent, Instr.op]

theorem frameFlags (f : Frame) (ts : Stamp) : Statement (.frameFlags f ts) := by
  refine ⟨rfl, rfl, ?_⟩; simp [Instr.isEvent, Instr.op]

theorem frameDataLen (f : Frame) (ts : Stamp) : Statement (.frameDataLen f ts) := by
  refine ⟨rfl, rfl, ?_⟩; simp [Instr.isEvent, Instr.op]

theorem frameData (f : Frame) (k : Byte) (ts : Stamp) : Statement (.frameData f k ts) := by
  refine ⟨rfl, rfl, ?_⟩; simp [Instr.isEvent, Instr.op]

theorem manchEncode (b : Byte) (ts : Stamp) : Statement (.manchEncode b ts) := by
  refine ⟨rfl, rfl, ?_⟩; simp [Instr.isEvent, Instr.op]

theorem manchDecode (g : Group) (ts : Stamp) : Statement (.manchDecode g ts) := by
  refine ⟨rfl, rfl, ?_⟩; simp [Instr.isEvent, Instr.op]

theorem eodTest (g : Group) (ts : Stamp) : Statement (.eodTest g ts) := by
  refine ⟨rfl, rfl, ?_⟩; simp [Instr.isEvent, Instr.op]

theorem sofMatch (g : Group) (ts : Stamp) : Statement (.sofMatch g ts) := by
  refine ⟨rfl, rfl, ?_⟩; simp [Instr.isEvent, Instr.op]

theorem bitTimeDecode (cycles : Word) (jitterIn : SWord) (ts : Stamp) :
    Statement (.bitTimeDecode cycles jitterIn ts) := by
  refine ⟨rfl, rfl, ?_⟩; simp [Instr.isEvent, Instr.op]

theorem preparePacket (iden : BitVec 12) (flags : BitVec 4) (data : List Byte) (len : Byte) (ts : Stamp) :
    Statement (.preparePacket iden flags data len ts) := by
  refine ⟨rfl, rfl, ?_⟩; simp [Instr.isEvent, Instr.op]

theorem txEnqueue (iden : BitVec 12) (flags : BitVec 4) (data : List Byte) (len : Byte) (ts : Stamp) :
    Statement (.txEnqueue iden flags data len ts) := by
  refine ⟨rfl, rfl, ?_⟩; simp [Instr.isEvent, Instr.op]

theorem stuffFrame (f : Frame) (ts : Stamp) : Statement (.stuffFrame f ts) := by
  refine ⟨rfl, rfl, ?_⟩; simp [Instr.isEvent, Instr.op]

theorem evEdge (level : Bit) (ts : Stamp) : Statement (.evEdge level ts) := by
  refine ⟨rfl, rfl, ?_⟩; simp [Instr.isEvent, Instr.op]

theorem evAckTimeout (ts : Stamp) : Statement (.evAckTimeout ts) := by
  refine ⟨rfl, rfl, ?_⟩; simp [Instr.isEvent, Instr.op]

theorem evTxTick (sample : Bit) (ts : Stamp) : Statement (.evTxTick sample ts) := by
  refine ⟨rfl, rfl, ?_⟩; simp [Instr.isEvent, Instr.op]

end Sys2Proof.Laws.OpAssigned
end

