-- ==== Sys2Proof/Laws/State.lean ====
section
/-! SUPPORT. Every named update of the state, field by field: what each field holds after it. A proof cites these and
unfolds no record update. -/

namespace Sys2Proof.Machine.State

variable (s : State)

/-! ### answer -/

@[simp] theorem answer_params (r : Result) : (s.answer r).params = s.params := rfl
@[simp] theorem answer_input (r : Result) : (s.answer r).input = s.input := rfl
@[simp] theorem answer_result (r : Result) : (s.answer r).result = r := rfl
@[simp] theorem answer_send (r : Result) : (s.answer r).send = s.send := rfl
@[simp] theorem answer_configured (r : Result) : (s.answer r).configured = s.configured := rfl
@[simp] theorem answer_q (r : Result) : (s.answer r).q = s.q := rfl
@[simp] theorem answer_rxPin (r : Result) : (s.answer r).rxPin = s.rxPin := rfl
@[simp] theorem answer_txPin (r : Result) : (s.answer r).txPin = s.txPin := rfl
@[simp] theorem answer_rxHostEnabled (r : Result) : (s.answer r).rxHostEnabled = s.rxHostEnabled := rfl
@[simp] theorem answer_rxTxSuspended (r : Result) : (s.answer r).rxTxSuspended = s.rxTxSuspended := rfl
@[simp] theorem answer_txTimerEnabled (r : Result) : (s.answer r).txTimerEnabled = s.txTimerEnabled := rfl
@[simp] theorem answer_prevEdgeTime (r : Result) : (s.answer r).prevEdgeTime = s.prevEdgeTime := rfl
@[simp] theorem answer_readBits (r : Result) : (s.answer r).readBits = s.readBits := rfl
@[simp] theorem answer_nBits (r : Result) : (s.answer r).nBits = s.nBits := rfl
@[simp] theorem answer_jitter (r : Result) : (s.answer r).jitter = s.jitter := rfl
@[simp] theorem answer_ackArmed (r : Result) : (s.answer r).ackArmed = s.ackArmed := rfl
@[simp] theorem answer_ackDeadline (r : Result) : (s.answer r).ackDeadline = s.ackDeadline := rfl
@[simp] theorem answer_rxSlots (r : Result) : (s.answer r).rxSlots = s.rxSlots := rfl
@[simp] theorem answer_head (r : Result) : (s.answer r).head = s.head := rfl
@[simp] theorem answer_tail (r : Result) : (s.answer r).tail = s.tail := rfl
@[simp] theorem answer_overrun (r : Result) : (s.answer r).overrun = s.overrun := rfl
@[simp] theorem answer_dropEnabled (r : Result) : (s.answer r).dropEnabled = s.dropEnabled := rfl
@[simp] theorem answer_dropThreshold (r : Result) : (s.answer r).dropThreshold = s.dropThreshold := rfl
@[simp] theorem answer_isEssential (r : Result) : (s.answer r).isEssential = s.isEssential := rfl
@[simp] theorem answer_lastBusActivity (r : Result) : (s.answer r).lastBusActivity = s.lastBusActivity := rfl
@[simp] theorem answer_txSlots (r : Result) : (s.answer r).txSlots = s.txSlots := rfl
@[simp] theorem answer_txHead (r : Result) : (s.answer r).txHead = s.txHead := rfl
@[simp] theorem answer_txTail (r : Result) : (s.answer r).txTail = s.txTail := rfl
@[simp] theorem answer_txPinLevel (r : Result) : (s.answer r).txPinLevel = s.txPinLevel := rfl
@[simp] theorem answer_rxStats (r : Result) : (s.answer r).rxStats = s.rxStats := rfl
@[simp] theorem answer_txStats (r : Result) : (s.answer r).txStats = s.txStats := rfl
@[simp] theorem answer_repairStats (r : Result) : (s.answer r).repairStats = s.repairStats := rfl

/-! ### putRx -/

@[simp] theorem putRx_params (i : Nat) (slot : RxSlot) : (s.putRx i slot).params = s.params := rfl
@[simp] theorem putRx_input (i : Nat) (slot : RxSlot) : (s.putRx i slot).input = s.input := rfl
@[simp] theorem putRx_result (i : Nat) (slot : RxSlot) : (s.putRx i slot).result = s.result := rfl
@[simp] theorem putRx_send (i : Nat) (slot : RxSlot) : (s.putRx i slot).send = s.send := rfl
@[simp] theorem putRx_configured (i : Nat) (slot : RxSlot) : (s.putRx i slot).configured = s.configured := rfl
@[simp] theorem putRx_q (i : Nat) (slot : RxSlot) : (s.putRx i slot).q = s.q := rfl
@[simp] theorem putRx_rxPin (i : Nat) (slot : RxSlot) : (s.putRx i slot).rxPin = s.rxPin := rfl
@[simp] theorem putRx_txPin (i : Nat) (slot : RxSlot) : (s.putRx i slot).txPin = s.txPin := rfl
@[simp] theorem putRx_rxHostEnabled (i : Nat) (slot : RxSlot) : (s.putRx i slot).rxHostEnabled = s.rxHostEnabled := rfl
@[simp] theorem putRx_rxTxSuspended (i : Nat) (slot : RxSlot) : (s.putRx i slot).rxTxSuspended = s.rxTxSuspended := rfl
@[simp] theorem putRx_txTimerEnabled (i : Nat) (slot : RxSlot) : (s.putRx i slot).txTimerEnabled = s.txTimerEnabled := rfl
@[simp] theorem putRx_prevEdgeTime (i : Nat) (slot : RxSlot) : (s.putRx i slot).prevEdgeTime = s.prevEdgeTime := rfl
@[simp] theorem putRx_readBits (i : Nat) (slot : RxSlot) : (s.putRx i slot).readBits = s.readBits := rfl
@[simp] theorem putRx_nBits (i : Nat) (slot : RxSlot) : (s.putRx i slot).nBits = s.nBits := rfl
@[simp] theorem putRx_jitter (i : Nat) (slot : RxSlot) : (s.putRx i slot).jitter = s.jitter := rfl
@[simp] theorem putRx_ackArmed (i : Nat) (slot : RxSlot) : (s.putRx i slot).ackArmed = s.ackArmed := rfl
@[simp] theorem putRx_ackDeadline (i : Nat) (slot : RxSlot) : (s.putRx i slot).ackDeadline = s.ackDeadline := rfl
@[simp] theorem putRx_rxSlots (i : Nat) (slot : RxSlot) : (s.putRx i slot).rxSlots = s.rxSlots.set i slot := rfl
@[simp] theorem putRx_head (i : Nat) (slot : RxSlot) : (s.putRx i slot).head = s.head := rfl
@[simp] theorem putRx_tail (i : Nat) (slot : RxSlot) : (s.putRx i slot).tail = s.tail := rfl
@[simp] theorem putRx_overrun (i : Nat) (slot : RxSlot) : (s.putRx i slot).overrun = s.overrun := rfl
@[simp] theorem putRx_dropEnabled (i : Nat) (slot : RxSlot) : (s.putRx i slot).dropEnabled = s.dropEnabled := rfl
@[simp] theorem putRx_dropThreshold (i : Nat) (slot : RxSlot) : (s.putRx i slot).dropThreshold = s.dropThreshold := rfl
@[simp] theorem putRx_isEssential (i : Nat) (slot : RxSlot) : (s.putRx i slot).isEssential = s.isEssential := rfl
@[simp] theorem putRx_lastBusActivity (i : Nat) (slot : RxSlot) : (s.putRx i slot).lastBusActivity = s.lastBusActivity := rfl
@[simp] theorem putRx_txSlots (i : Nat) (slot : RxSlot) : (s.putRx i slot).txSlots = s.txSlots := rfl
@[simp] theorem putRx_txHead (i : Nat) (slot : RxSlot) : (s.putRx i slot).txHead = s.txHead := rfl
@[simp] theorem putRx_txTail (i : Nat) (slot : RxSlot) : (s.putRx i slot).txTail = s.txTail := rfl
@[simp] theorem putRx_txPinLevel (i : Nat) (slot : RxSlot) : (s.putRx i slot).txPinLevel = s.txPinLevel := rfl
@[simp] theorem putRx_rxStats (i : Nat) (slot : RxSlot) : (s.putRx i slot).rxStats = s.rxStats := rfl
@[simp] theorem putRx_txStats (i : Nat) (slot : RxSlot) : (s.putRx i slot).txStats = s.txStats := rfl
@[simp] theorem putRx_repairStats (i : Nat) (slot : RxSlot) : (s.putRx i slot).repairStats = s.repairStats := rfl

/-! ### putTx -/

@[simp] theorem putTx_params (i : Nat) (slot : TxSlot) : (s.putTx i slot).params = s.params := rfl
@[simp] theorem putTx_input (i : Nat) (slot : TxSlot) : (s.putTx i slot).input = s.input := rfl
@[simp] theorem putTx_result (i : Nat) (slot : TxSlot) : (s.putTx i slot).result = s.result := rfl
@[simp] theorem putTx_send (i : Nat) (slot : TxSlot) : (s.putTx i slot).send = s.send := rfl
@[simp] theorem putTx_configured (i : Nat) (slot : TxSlot) : (s.putTx i slot).configured = s.configured := rfl
@[simp] theorem putTx_q (i : Nat) (slot : TxSlot) : (s.putTx i slot).q = s.q := rfl
@[simp] theorem putTx_rxPin (i : Nat) (slot : TxSlot) : (s.putTx i slot).rxPin = s.rxPin := rfl
@[simp] theorem putTx_txPin (i : Nat) (slot : TxSlot) : (s.putTx i slot).txPin = s.txPin := rfl
@[simp] theorem putTx_rxHostEnabled (i : Nat) (slot : TxSlot) : (s.putTx i slot).rxHostEnabled = s.rxHostEnabled := rfl
@[simp] theorem putTx_rxTxSuspended (i : Nat) (slot : TxSlot) : (s.putTx i slot).rxTxSuspended = s.rxTxSuspended := rfl
@[simp] theorem putTx_txTimerEnabled (i : Nat) (slot : TxSlot) : (s.putTx i slot).txTimerEnabled = s.txTimerEnabled := rfl
@[simp] theorem putTx_prevEdgeTime (i : Nat) (slot : TxSlot) : (s.putTx i slot).prevEdgeTime = s.prevEdgeTime := rfl
@[simp] theorem putTx_readBits (i : Nat) (slot : TxSlot) : (s.putTx i slot).readBits = s.readBits := rfl
@[simp] theorem putTx_nBits (i : Nat) (slot : TxSlot) : (s.putTx i slot).nBits = s.nBits := rfl
@[simp] theorem putTx_jitter (i : Nat) (slot : TxSlot) : (s.putTx i slot).jitter = s.jitter := rfl
@[simp] theorem putTx_ackArmed (i : Nat) (slot : TxSlot) : (s.putTx i slot).ackArmed = s.ackArmed := rfl
@[simp] theorem putTx_ackDeadline (i : Nat) (slot : TxSlot) : (s.putTx i slot).ackDeadline = s.ackDeadline := rfl
@[simp] theorem putTx_rxSlots (i : Nat) (slot : TxSlot) : (s.putTx i slot).rxSlots = s.rxSlots := rfl
@[simp] theorem putTx_head (i : Nat) (slot : TxSlot) : (s.putTx i slot).head = s.head := rfl
@[simp] theorem putTx_tail (i : Nat) (slot : TxSlot) : (s.putTx i slot).tail = s.tail := rfl
@[simp] theorem putTx_overrun (i : Nat) (slot : TxSlot) : (s.putTx i slot).overrun = s.overrun := rfl
@[simp] theorem putTx_dropEnabled (i : Nat) (slot : TxSlot) : (s.putTx i slot).dropEnabled = s.dropEnabled := rfl
@[simp] theorem putTx_dropThreshold (i : Nat) (slot : TxSlot) : (s.putTx i slot).dropThreshold = s.dropThreshold := rfl
@[simp] theorem putTx_isEssential (i : Nat) (slot : TxSlot) : (s.putTx i slot).isEssential = s.isEssential := rfl
@[simp] theorem putTx_lastBusActivity (i : Nat) (slot : TxSlot) : (s.putTx i slot).lastBusActivity = s.lastBusActivity := rfl
@[simp] theorem putTx_txSlots (i : Nat) (slot : TxSlot) : (s.putTx i slot).txSlots = s.txSlots.set i slot := rfl
@[simp] theorem putTx_txHead (i : Nat) (slot : TxSlot) : (s.putTx i slot).txHead = s.txHead := rfl
@[simp] theorem putTx_txTail (i : Nat) (slot : TxSlot) : (s.putTx i slot).txTail = s.txTail := rfl
@[simp] theorem putTx_txPinLevel (i : Nat) (slot : TxSlot) : (s.putTx i slot).txPinLevel = s.txPinLevel := rfl
@[simp] theorem putTx_rxStats (i : Nat) (slot : TxSlot) : (s.putTx i slot).rxStats = s.rxStats := rfl
@[simp] theorem putTx_txStats (i : Nat) (slot : TxSlot) : (s.putTx i slot).txStats = s.txStats := rfl
@[simp] theorem putTx_repairStats (i : Nat) (slot : TxSlot) : (s.putTx i slot).repairStats = s.repairStats := rfl

/-! ### resetDecoder -/

@[simp] theorem resetDecoder_params : (s.resetDecoder).params = s.params := rfl
@[simp] theorem resetDecoder_input : (s.resetDecoder).input = s.input := rfl
@[simp] theorem resetDecoder_result : (s.resetDecoder).result = s.result := rfl
@[simp] theorem resetDecoder_send : (s.resetDecoder).send = s.send := rfl
@[simp] theorem resetDecoder_configured : (s.resetDecoder).configured = s.configured := rfl
@[simp] theorem resetDecoder_q : (s.resetDecoder).q = s.q := rfl
@[simp] theorem resetDecoder_rxPin : (s.resetDecoder).rxPin = s.rxPin := rfl
@[simp] theorem resetDecoder_txPin : (s.resetDecoder).txPin = s.txPin := rfl
@[simp] theorem resetDecoder_rxHostEnabled : (s.resetDecoder).rxHostEnabled = s.rxHostEnabled := rfl
@[simp] theorem resetDecoder_rxTxSuspended : (s.resetDecoder).rxTxSuspended = s.rxTxSuspended := rfl
@[simp] theorem resetDecoder_txTimerEnabled : (s.resetDecoder).txTimerEnabled = s.txTimerEnabled := rfl
@[simp] theorem resetDecoder_prevEdgeTime : (s.resetDecoder).prevEdgeTime = s.prevEdgeTime := rfl
@[simp] theorem resetDecoder_readBits : (s.resetDecoder).readBits = 0 := rfl
@[simp] theorem resetDecoder_nBits : (s.resetDecoder).nBits = 0 := rfl
@[simp] theorem resetDecoder_jitter : (s.resetDecoder).jitter = 0 := rfl
@[simp] theorem resetDecoder_ackArmed : (s.resetDecoder).ackArmed = s.ackArmed := rfl
@[simp] theorem resetDecoder_ackDeadline : (s.resetDecoder).ackDeadline = s.ackDeadline := rfl
@[simp] theorem resetDecoder_rxSlots : (s.resetDecoder).rxSlots = s.rxSlots := rfl
@[simp] theorem resetDecoder_head : (s.resetDecoder).head = s.head := rfl
@[simp] theorem resetDecoder_tail : (s.resetDecoder).tail = s.tail := rfl
@[simp] theorem resetDecoder_overrun : (s.resetDecoder).overrun = s.overrun := rfl
@[simp] theorem resetDecoder_dropEnabled : (s.resetDecoder).dropEnabled = s.dropEnabled := rfl
@[simp] theorem resetDecoder_dropThreshold : (s.resetDecoder).dropThreshold = s.dropThreshold := rfl
@[simp] theorem resetDecoder_isEssential : (s.resetDecoder).isEssential = s.isEssential := rfl
@[simp] theorem resetDecoder_lastBusActivity : (s.resetDecoder).lastBusActivity = s.lastBusActivity := rfl
@[simp] theorem resetDecoder_txSlots : (s.resetDecoder).txSlots = s.txSlots := rfl
@[simp] theorem resetDecoder_txHead : (s.resetDecoder).txHead = s.txHead := rfl
@[simp] theorem resetDecoder_txTail : (s.resetDecoder).txTail = s.txTail := rfl
@[simp] theorem resetDecoder_txPinLevel : (s.resetDecoder).txPinLevel = s.txPinLevel := rfl
@[simp] theorem resetDecoder_rxStats : (s.resetDecoder).rxStats = s.rxStats := rfl
@[simp] theorem resetDecoder_txStats : (s.resetDecoder).txStats = s.txStats := rfl
@[simp] theorem resetDecoder_repairStats : (s.resetDecoder).repairStats = s.repairStats := rfl

/-! ### drive -/

@[simp] theorem drive_params (level : Bit) : (s.drive level).params = s.params := rfl
@[simp] theorem drive_input (level : Bit) : (s.drive level).input = s.input := rfl
@[simp] theorem drive_result (level : Bit) : (s.drive level).result = s.result := rfl
@[simp] theorem drive_send (level : Bit) : (s.drive level).send = s.send := rfl
@[simp] theorem drive_configured (level : Bit) : (s.drive level).configured = s.configured := rfl
@[simp] theorem drive_q (level : Bit) : (s.drive level).q = s.q := rfl
@[simp] theorem drive_rxPin (level : Bit) : (s.drive level).rxPin = s.rxPin := rfl
@[simp] theorem drive_txPin (level : Bit) : (s.drive level).txPin = s.txPin := rfl
@[simp] theorem drive_rxHostEnabled (level : Bit) : (s.drive level).rxHostEnabled = s.rxHostEnabled := rfl
@[simp] theorem drive_rxTxSuspended (level : Bit) : (s.drive level).rxTxSuspended = s.rxTxSuspended := rfl
@[simp] theorem drive_txTimerEnabled (level : Bit) : (s.drive level).txTimerEnabled = s.txTimerEnabled := rfl
@[simp] theorem drive_prevEdgeTime (level : Bit) : (s.drive level).prevEdgeTime = s.prevEdgeTime := rfl
@[simp] theorem drive_readBits (level : Bit) : (s.drive level).readBits = s.readBits := rfl
@[simp] theorem drive_nBits (level : Bit) : (s.drive level).nBits = s.nBits := rfl
@[simp] theorem drive_jitter (level : Bit) : (s.drive level).jitter = s.jitter := rfl
@[simp] theorem drive_ackArmed (level : Bit) : (s.drive level).ackArmed = s.ackArmed := rfl
@[simp] theorem drive_ackDeadline (level : Bit) : (s.drive level).ackDeadline = s.ackDeadline := rfl
@[simp] theorem drive_rxSlots (level : Bit) : (s.drive level).rxSlots = s.rxSlots := rfl
@[simp] theorem drive_head (level : Bit) : (s.drive level).head = s.head := rfl
@[simp] theorem drive_tail (level : Bit) : (s.drive level).tail = s.tail := rfl
@[simp] theorem drive_overrun (level : Bit) : (s.drive level).overrun = s.overrun := rfl
@[simp] theorem drive_dropEnabled (level : Bit) : (s.drive level).dropEnabled = s.dropEnabled := rfl
@[simp] theorem drive_dropThreshold (level : Bit) : (s.drive level).dropThreshold = s.dropThreshold := rfl
@[simp] theorem drive_isEssential (level : Bit) : (s.drive level).isEssential = s.isEssential := rfl
@[simp] theorem drive_lastBusActivity (level : Bit) : (s.drive level).lastBusActivity = s.lastBusActivity := rfl
@[simp] theorem drive_txSlots (level : Bit) : (s.drive level).txSlots = s.txSlots := rfl
@[simp] theorem drive_txHead (level : Bit) : (s.drive level).txHead = s.txHead := rfl
@[simp] theorem drive_txTail (level : Bit) : (s.drive level).txTail = s.txTail := rfl
@[simp] theorem drive_txPinLevel (level : Bit) : (s.drive level).txPinLevel = level := rfl
@[simp] theorem drive_rxStats (level : Bit) : (s.drive level).rxStats = s.rxStats := rfl
@[simp] theorem drive_txStats (level : Bit) : (s.drive level).txStats = s.txStats := rfl
@[simp] theorem drive_repairStats (level : Bit) : (s.drive level).repairStats = s.repairStats := rfl

/-! ### noteOverrun -/

@[simp] theorem noteOverrun_params : (s.noteOverrun).params = s.params := rfl
@[simp] theorem noteOverrun_input : (s.noteOverrun).input = s.input := rfl
@[simp] theorem noteOverrun_result : (s.noteOverrun).result = s.result := rfl
@[simp] theorem noteOverrun_send : (s.noteOverrun).send = s.send := rfl
@[simp] theorem noteOverrun_configured : (s.noteOverrun).configured = s.configured := rfl
@[simp] theorem noteOverrun_q : (s.noteOverrun).q = s.q := rfl
@[simp] theorem noteOverrun_rxPin : (s.noteOverrun).rxPin = s.rxPin := rfl
@[simp] theorem noteOverrun_txPin : (s.noteOverrun).txPin = s.txPin := rfl
@[simp] theorem noteOverrun_rxHostEnabled : (s.noteOverrun).rxHostEnabled = s.rxHostEnabled := rfl
@[simp] theorem noteOverrun_rxTxSuspended : (s.noteOverrun).rxTxSuspended = s.rxTxSuspended := rfl
@[simp] theorem noteOverrun_txTimerEnabled : (s.noteOverrun).txTimerEnabled = s.txTimerEnabled := rfl
@[simp] theorem noteOverrun_prevEdgeTime : (s.noteOverrun).prevEdgeTime = s.prevEdgeTime := rfl
@[simp] theorem noteOverrun_readBits : (s.noteOverrun).readBits = s.readBits := rfl
@[simp] theorem noteOverrun_nBits : (s.noteOverrun).nBits = s.nBits := rfl
@[simp] theorem noteOverrun_jitter : (s.noteOverrun).jitter = s.jitter := rfl
@[simp] theorem noteOverrun_ackArmed : (s.noteOverrun).ackArmed = s.ackArmed := rfl
@[simp] theorem noteOverrun_ackDeadline : (s.noteOverrun).ackDeadline = s.ackDeadline := rfl
@[simp] theorem noteOverrun_rxSlots : (s.noteOverrun).rxSlots = s.rxSlots := rfl
@[simp] theorem noteOverrun_head : (s.noteOverrun).head = s.head := rfl
@[simp] theorem noteOverrun_tail : (s.noteOverrun).tail = s.tail := rfl
@[simp] theorem noteOverrun_overrun : (s.noteOverrun).overrun = true := rfl
@[simp] theorem noteOverrun_dropEnabled : (s.noteOverrun).dropEnabled = s.dropEnabled := rfl
@[simp] theorem noteOverrun_dropThreshold : (s.noteOverrun).dropThreshold = s.dropThreshold := rfl
@[simp] theorem noteOverrun_isEssential : (s.noteOverrun).isEssential = s.isEssential := rfl
@[simp] theorem noteOverrun_lastBusActivity : (s.noteOverrun).lastBusActivity = s.lastBusActivity := rfl
@[simp] theorem noteOverrun_txSlots : (s.noteOverrun).txSlots = s.txSlots := rfl
@[simp] theorem noteOverrun_txHead : (s.noteOverrun).txHead = s.txHead := rfl
@[simp] theorem noteOverrun_txTail : (s.noteOverrun).txTail = s.txTail := rfl
@[simp] theorem noteOverrun_txPinLevel : (s.noteOverrun).txPinLevel = s.txPinLevel := rfl
@[simp] theorem noteOverrun_rxStats : (s.noteOverrun).rxStats = { s.rxStats with rxOverwritten := s.rxStats.rxOverwritten + 1 } := rfl
@[simp] theorem noteOverrun_txStats : (s.noteOverrun).txStats = s.txStats := rfl
@[simp] theorem noteOverrun_repairStats : (s.noteOverrun).repairStats = s.repairStats := rfl

/-! ### noteDropped -/

@[simp] theorem noteDropped_params : (s.noteDropped).params = s.params := rfl
@[simp] theorem noteDropped_input : (s.noteDropped).input = s.input := rfl
@[simp] theorem noteDropped_result : (s.noteDropped).result = s.result := rfl
@[simp] theorem noteDropped_send : (s.noteDropped).send = s.send := rfl
@[simp] theorem noteDropped_configured : (s.noteDropped).configured = s.configured := rfl
@[simp] theorem noteDropped_q : (s.noteDropped).q = s.q := rfl
@[simp] theorem noteDropped_rxPin : (s.noteDropped).rxPin = s.rxPin := rfl
@[simp] theorem noteDropped_txPin : (s.noteDropped).txPin = s.txPin := rfl
@[simp] theorem noteDropped_rxHostEnabled : (s.noteDropped).rxHostEnabled = s.rxHostEnabled := rfl
@[simp] theorem noteDropped_rxTxSuspended : (s.noteDropped).rxTxSuspended = s.rxTxSuspended := rfl
@[simp] theorem noteDropped_txTimerEnabled : (s.noteDropped).txTimerEnabled = s.txTimerEnabled := rfl
@[simp] theorem noteDropped_prevEdgeTime : (s.noteDropped).prevEdgeTime = s.prevEdgeTime := rfl
@[simp] theorem noteDropped_readBits : (s.noteDropped).readBits = s.readBits := rfl
@[simp] theorem noteDropped_nBits : (s.noteDropped).nBits = s.nBits := rfl
@[simp] theorem noteDropped_jitter : (s.noteDropped).jitter = s.jitter := rfl
@[simp] theorem noteDropped_ackArmed : (s.noteDropped).ackArmed = s.ackArmed := rfl
@[simp] theorem noteDropped_ackDeadline : (s.noteDropped).ackDeadline = s.ackDeadline := rfl
@[simp] theorem noteDropped_rxSlots : (s.noteDropped).rxSlots = s.rxSlots := rfl
@[simp] theorem noteDropped_head : (s.noteDropped).head = s.head := rfl
@[simp] theorem noteDropped_tail : (s.noteDropped).tail = s.tail := rfl
@[simp] theorem noteDropped_overrun : (s.noteDropped).overrun = s.overrun := rfl
@[simp] theorem noteDropped_dropEnabled : (s.noteDropped).dropEnabled = s.dropEnabled := rfl
@[simp] theorem noteDropped_dropThreshold : (s.noteDropped).dropThreshold = s.dropThreshold := rfl
@[simp] theorem noteDropped_isEssential : (s.noteDropped).isEssential = s.isEssential := rfl
@[simp] theorem noteDropped_lastBusActivity : (s.noteDropped).lastBusActivity = s.lastBusActivity := rfl
@[simp] theorem noteDropped_txSlots : (s.noteDropped).txSlots = s.txSlots := rfl
@[simp] theorem noteDropped_txHead : (s.noteDropped).txHead = s.txHead := rfl
@[simp] theorem noteDropped_txTail : (s.noteDropped).txTail = s.txTail := rfl
@[simp] theorem noteDropped_txPinLevel : (s.noteDropped).txPinLevel = s.txPinLevel := rfl
@[simp] theorem noteDropped_rxStats : (s.noteDropped).rxStats = { s.rxStats with rxDropped := s.rxStats.rxDropped + 1 } := rfl
@[simp] theorem noteDropped_txStats : (s.noteDropped).txStats = s.txStats := rfl
@[simp] theorem noteDropped_repairStats : (s.noteDropped).repairStats = s.repairStats := rfl

/-! ### noteCompleted -/

@[simp] theorem noteCompleted_params : (s.noteCompleted).params = s.params := rfl
@[simp] theorem noteCompleted_input : (s.noteCompleted).input = s.input := rfl
@[simp] theorem noteCompleted_result : (s.noteCompleted).result = s.result := rfl
@[simp] theorem noteCompleted_send : (s.noteCompleted).send = s.send := rfl
@[simp] theorem noteCompleted_configured : (s.noteCompleted).configured = s.configured := rfl
@[simp] theorem noteCompleted_q : (s.noteCompleted).q = s.q := rfl
@[simp] theorem noteCompleted_rxPin : (s.noteCompleted).rxPin = s.rxPin := rfl
@[simp] theorem noteCompleted_txPin : (s.noteCompleted).txPin = s.txPin := rfl
@[simp] theorem noteCompleted_rxHostEnabled : (s.noteCompleted).rxHostEnabled = s.rxHostEnabled := rfl
@[simp] theorem noteCompleted_rxTxSuspended : (s.noteCompleted).rxTxSuspended = s.rxTxSuspended := rfl
@[simp] theorem noteCompleted_txTimerEnabled : (s.noteCompleted).txTimerEnabled = s.txTimerEnabled := rfl
@[simp] theorem noteCompleted_prevEdgeTime : (s.noteCompleted).prevEdgeTime = s.prevEdgeTime := rfl
@[simp] theorem noteCompleted_readBits : (s.noteCompleted).readBits = s.readBits := rfl
@[simp] theorem noteCompleted_nBits : (s.noteCompleted).nBits = s.nBits := rfl
@[simp] theorem noteCompleted_jitter : (s.noteCompleted).jitter = s.jitter := rfl
@[simp] theorem noteCompleted_ackArmed : (s.noteCompleted).ackArmed = s.ackArmed := rfl
@[simp] theorem noteCompleted_ackDeadline : (s.noteCompleted).ackDeadline = s.ackDeadline := rfl
@[simp] theorem noteCompleted_rxSlots : (s.noteCompleted).rxSlots = s.rxSlots := rfl
@[simp] theorem noteCompleted_head : (s.noteCompleted).head = s.head := rfl
@[simp] theorem noteCompleted_tail : (s.noteCompleted).tail = s.tail := rfl
@[simp] theorem noteCompleted_overrun : (s.noteCompleted).overrun = s.overrun := rfl
@[simp] theorem noteCompleted_dropEnabled : (s.noteCompleted).dropEnabled = s.dropEnabled := rfl
@[simp] theorem noteCompleted_dropThreshold : (s.noteCompleted).dropThreshold = s.dropThreshold := rfl
@[simp] theorem noteCompleted_isEssential : (s.noteCompleted).isEssential = s.isEssential := rfl
@[simp] theorem noteCompleted_lastBusActivity : (s.noteCompleted).lastBusActivity = s.lastBusActivity := rfl
@[simp] theorem noteCompleted_txSlots : (s.noteCompleted).txSlots = s.txSlots := rfl
@[simp] theorem noteCompleted_txHead : (s.noteCompleted).txHead = s.txHead := rfl
@[simp] theorem noteCompleted_txTail : (s.noteCompleted).txTail = s.txTail := rfl
@[simp] theorem noteCompleted_txPinLevel : (s.noteCompleted).txPinLevel = s.txPinLevel := rfl
@[simp] theorem noteCompleted_rxStats : (s.noteCompleted).rxStats = { s.rxStats with rxCount := s.rxStats.rxCount + 1 } := rfl
@[simp] theorem noteCompleted_txStats : (s.noteCompleted).txStats = s.txStats := rfl
@[simp] theorem noteCompleted_repairStats : (s.noteCompleted).repairStats = s.repairStats := rfl

/-! ### noteQueued -/

@[simp] theorem noteQueued_params : (s.noteQueued).params = s.params := rfl
@[simp] theorem noteQueued_input : (s.noteQueued).input = s.input := rfl
@[simp] theorem noteQueued_result : (s.noteQueued).result = s.result := rfl
@[simp] theorem noteQueued_send : (s.noteQueued).send = s.send := rfl
@[simp] theorem noteQueued_configured : (s.noteQueued).configured = s.configured := rfl
@[simp] theorem noteQueued_q : (s.noteQueued).q = s.q := rfl
@[simp] theorem noteQueued_rxPin : (s.noteQueued).rxPin = s.rxPin := rfl
@[simp] theorem noteQueued_txPin : (s.noteQueued).txPin = s.txPin := rfl
@[simp] theorem noteQueued_rxHostEnabled : (s.noteQueued).rxHostEnabled = s.rxHostEnabled := rfl
@[simp] theorem noteQueued_rxTxSuspended : (s.noteQueued).rxTxSuspended = s.rxTxSuspended := rfl
@[simp] theorem noteQueued_txTimerEnabled : (s.noteQueued).txTimerEnabled = s.txTimerEnabled := rfl
@[simp] theorem noteQueued_prevEdgeTime : (s.noteQueued).prevEdgeTime = s.prevEdgeTime := rfl
@[simp] theorem noteQueued_readBits : (s.noteQueued).readBits = s.readBits := rfl
@[simp] theorem noteQueued_nBits : (s.noteQueued).nBits = s.nBits := rfl
@[simp] theorem noteQueued_jitter : (s.noteQueued).jitter = s.jitter := rfl
@[simp] theorem noteQueued_ackArmed : (s.noteQueued).ackArmed = s.ackArmed := rfl
@[simp] theorem noteQueued_ackDeadline : (s.noteQueued).ackDeadline = s.ackDeadline := rfl
@[simp] theorem noteQueued_rxSlots : (s.noteQueued).rxSlots = s.rxSlots := rfl
@[simp] theorem noteQueued_head : (s.noteQueued).head = s.head := rfl
@[simp] theorem noteQueued_tail : (s.noteQueued).tail = s.tail := rfl
@[simp] theorem noteQueued_overrun : (s.noteQueued).overrun = s.overrun := rfl
@[simp] theorem noteQueued_dropEnabled : (s.noteQueued).dropEnabled = s.dropEnabled := rfl
@[simp] theorem noteQueued_dropThreshold : (s.noteQueued).dropThreshold = s.dropThreshold := rfl
@[simp] theorem noteQueued_isEssential : (s.noteQueued).isEssential = s.isEssential := rfl
@[simp] theorem noteQueued_lastBusActivity : (s.noteQueued).lastBusActivity = s.lastBusActivity := rfl
@[simp] theorem noteQueued_txSlots : (s.noteQueued).txSlots = s.txSlots := rfl
@[simp] theorem noteQueued_txHead : (s.noteQueued).txHead = s.txHead := rfl
@[simp] theorem noteQueued_txTail : (s.noteQueued).txTail = s.txTail := rfl
@[simp] theorem noteQueued_txPinLevel : (s.noteQueued).txPinLevel = s.txPinLevel := rfl
@[simp] theorem noteQueued_txStats : (s.noteQueued).txStats = s.txStats := rfl
@[simp] theorem noteQueued_repairStats : (s.noteQueued).repairStats = s.repairStats := rfl

/-! ### noteBusOccupied -/

@[simp] theorem noteBusOccupied_params : (s.noteBusOccupied).params = s.params := rfl
@[simp] theorem noteBusOccupied_input : (s.noteBusOccupied).input = s.input := rfl
@[simp] theorem noteBusOccupied_result : (s.noteBusOccupied).result = s.result := rfl
@[simp] theorem noteBusOccupied_send : (s.noteBusOccupied).send = s.send := rfl
@[simp] theorem noteBusOccupied_configured : (s.noteBusOccupied).configured = s.configured := rfl
@[simp] theorem noteBusOccupied_q : (s.noteBusOccupied).q = s.q := rfl
@[simp] theorem noteBusOccupied_rxPin : (s.noteBusOccupied).rxPin = s.rxPin := rfl
@[simp] theorem noteBusOccupied_txPin : (s.noteBusOccupied).txPin = s.txPin := rfl
@[simp] theorem noteBusOccupied_rxHostEnabled : (s.noteBusOccupied).rxHostEnabled = s.rxHostEnabled := rfl
@[simp] theorem noteBusOccupied_rxTxSuspended : (s.noteBusOccupied).rxTxSuspended = s.rxTxSuspended := rfl
@[simp] theorem noteBusOccupied_txTimerEnabled : (s.noteBusOccupied).txTimerEnabled = s.txTimerEnabled := rfl
@[simp] theorem noteBusOccupied_prevEdgeTime : (s.noteBusOccupied).prevEdgeTime = s.prevEdgeTime := rfl
@[simp] theorem noteBusOccupied_readBits : (s.noteBusOccupied).readBits = s.readBits := rfl
@[simp] theorem noteBusOccupied_nBits : (s.noteBusOccupied).nBits = s.nBits := rfl
@[simp] theorem noteBusOccupied_jitter : (s.noteBusOccupied).jitter = s.jitter := rfl
@[simp] theorem noteBusOccupied_ackArmed : (s.noteBusOccupied).ackArmed = s.ackArmed := rfl
@[simp] theorem noteBusOccupied_ackDeadline : (s.noteBusOccupied).ackDeadline = s.ackDeadline := rfl
@[simp] theorem noteBusOccupied_rxSlots : (s.noteBusOccupied).rxSlots = s.rxSlots := rfl
@[simp] theorem noteBusOccupied_head : (s.noteBusOccupied).head = s.head := rfl
@[simp] theorem noteBusOccupied_tail : (s.noteBusOccupied).tail = s.tail := rfl
@[simp] theorem noteBusOccupied_overrun : (s.noteBusOccupied).overrun = s.overrun := rfl
@[simp] theorem noteBusOccupied_dropEnabled : (s.noteBusOccupied).dropEnabled = s.dropEnabled := rfl
@[simp] theorem noteBusOccupied_dropThreshold : (s.noteBusOccupied).dropThreshold = s.dropThreshold := rfl
@[simp] theorem noteBusOccupied_isEssential : (s.noteBusOccupied).isEssential = s.isEssential := rfl
@[simp] theorem noteBusOccupied_lastBusActivity : (s.noteBusOccupied).lastBusActivity = s.lastBusActivity := rfl
@[simp] theorem noteBusOccupied_txSlots : (s.noteBusOccupied).txSlots = s.txSlots := rfl
@[simp] theorem noteBusOccupied_txHead : (s.noteBusOccupied).txHead = s.txHead := rfl
@[simp] theorem noteBusOccupied_txTail : (s.noteBusOccupied).txTail = s.txTail := rfl
@[simp] theorem noteBusOccupied_txPinLevel : (s.noteBusOccupied).txPinLevel = s.txPinLevel := rfl
@[simp] theorem noteBusOccupied_rxStats : (s.noteBusOccupied).rxStats = s.rxStats := rfl
@[simp] theorem noteBusOccupied_txStats : (s.noteBusOccupied).txStats = { s.txStats with txBusOccupied := s.txStats.txBusOccupied + 1 } := rfl
@[simp] theorem noteBusOccupied_repairStats : (s.noteBusOccupied).repairStats = s.repairStats := rfl

/-! ### noteBitError -/

@[simp] theorem noteBitError_params : (s.noteBitError).params = s.params := rfl
@[simp] theorem noteBitError_input : (s.noteBitError).input = s.input := rfl
@[simp] theorem noteBitError_result : (s.noteBitError).result = s.result := rfl
@[simp] theorem noteBitError_send : (s.noteBitError).send = s.send := rfl
@[simp] theorem noteBitError_configured : (s.noteBitError).configured = s.configured := rfl
@[simp] theorem noteBitError_q : (s.noteBitError).q = s.q := rfl
@[simp] theorem noteBitError_rxPin : (s.noteBitError).rxPin = s.rxPin := rfl
@[simp] theorem noteBitError_txPin : (s.noteBitError).txPin = s.txPin := rfl
@[simp] theorem noteBitError_rxHostEnabled : (s.noteBitError).rxHostEnabled = s.rxHostEnabled := rfl
@[simp] theorem noteBitError_rxTxSuspended : (s.noteBitError).rxTxSuspended = s.rxTxSuspended := rfl
@[simp] theorem noteBitError_txTimerEnabled : (s.noteBitError).txTimerEnabled = s.txTimerEnabled := rfl
@[simp] theorem noteBitError_prevEdgeTime : (s.noteBitError).prevEdgeTime = s.prevEdgeTime := rfl
@[simp] theorem noteBitError_readBits : (s.noteBitError).readBits = s.readBits := rfl
@[simp] theorem noteBitError_nBits : (s.noteBitError).nBits = s.nBits := rfl
@[simp] theorem noteBitError_jitter : (s.noteBitError).jitter = s.jitter := rfl
@[simp] theorem noteBitError_ackArmed : (s.noteBitError).ackArmed = s.ackArmed := rfl
@[simp] theorem noteBitError_ackDeadline : (s.noteBitError).ackDeadline = s.ackDeadline := rfl
@[simp] theorem noteBitError_rxSlots : (s.noteBitError).rxSlots = s.rxSlots := rfl
@[simp] theorem noteBitError_head : (s.noteBitError).head = s.head := rfl
@[simp] theorem noteBitError_tail : (s.noteBitError).tail = s.tail := rfl
@[simp] theorem noteBitError_overrun : (s.noteBitError).overrun = s.overrun := rfl
@[simp] theorem noteBitError_dropEnabled : (s.noteBitError).dropEnabled = s.dropEnabled := rfl
@[simp] theorem noteBitError_dropThreshold : (s.noteBitError).dropThreshold = s.dropThreshold := rfl
@[simp] theorem noteBitError_isEssential : (s.noteBitError).isEssential = s.isEssential := rfl
@[simp] theorem noteBitError_lastBusActivity : (s.noteBitError).lastBusActivity = s.lastBusActivity := rfl
@[simp] theorem noteBitError_txSlots : (s.noteBitError).txSlots = s.txSlots := rfl
@[simp] theorem noteBitError_txHead : (s.noteBitError).txHead = s.txHead := rfl
@[simp] theorem noteBitError_txTail : (s.noteBitError).txTail = s.txTail := rfl
@[simp] theorem noteBitError_txPinLevel : (s.noteBitError).txPinLevel = s.txPinLevel := rfl
@[simp] theorem noteBitError_rxStats : (s.noteBitError).rxStats = s.rxStats := rfl
@[simp] theorem noteBitError_txStats : (s.noteBitError).txStats = { s.txStats with txBitErrors := s.txStats.txBitErrors + 1 } := rfl
@[simp] theorem noteBitError_repairStats : (s.noteBitError).repairStats = s.repairStats := rfl

/-! ### noteTxDropped -/

@[simp] theorem noteTxDropped_params : (s.noteTxDropped).params = s.params := rfl
@[simp] theorem noteTxDropped_input : (s.noteTxDropped).input = s.input := rfl
@[simp] theorem noteTxDropped_result : (s.noteTxDropped).result = s.result := rfl
@[simp] theorem noteTxDropped_send : (s.noteTxDropped).send = s.send := rfl
@[simp] theorem noteTxDropped_configured : (s.noteTxDropped).configured = s.configured := rfl
@[simp] theorem noteTxDropped_q : (s.noteTxDropped).q = s.q := rfl
@[simp] theorem noteTxDropped_rxPin : (s.noteTxDropped).rxPin = s.rxPin := rfl
@[simp] theorem noteTxDropped_txPin : (s.noteTxDropped).txPin = s.txPin := rfl
@[simp] theorem noteTxDropped_rxHostEnabled : (s.noteTxDropped).rxHostEnabled = s.rxHostEnabled := rfl
@[simp] theorem noteTxDropped_rxTxSuspended : (s.noteTxDropped).rxTxSuspended = s.rxTxSuspended := rfl
@[simp] theorem noteTxDropped_txTimerEnabled : (s.noteTxDropped).txTimerEnabled = s.txTimerEnabled := rfl
@[simp] theorem noteTxDropped_prevEdgeTime : (s.noteTxDropped).prevEdgeTime = s.prevEdgeTime := rfl
@[simp] theorem noteTxDropped_readBits : (s.noteTxDropped).readBits = s.readBits := rfl
@[simp] theorem noteTxDropped_nBits : (s.noteTxDropped).nBits = s.nBits := rfl
@[simp] theorem noteTxDropped_jitter : (s.noteTxDropped).jitter = s.jitter := rfl
@[simp] theorem noteTxDropped_ackArmed : (s.noteTxDropped).ackArmed = s.ackArmed := rfl
@[simp] theorem noteTxDropped_ackDeadline : (s.noteTxDropped).ackDeadline = s.ackDeadline := rfl
@[simp] theorem noteTxDropped_rxSlots : (s.noteTxDropped).rxSlots = s.rxSlots := rfl
@[simp] theorem noteTxDropped_head : (s.noteTxDropped).head = s.head := rfl
@[simp] theorem noteTxDropped_tail : (s.noteTxDropped).tail = s.tail := rfl
@[simp] theorem noteTxDropped_overrun : (s.noteTxDropped).overrun = s.overrun := rfl
@[simp] theorem noteTxDropped_dropEnabled : (s.noteTxDropped).dropEnabled = s.dropEnabled := rfl
@[simp] theorem noteTxDropped_dropThreshold : (s.noteTxDropped).dropThreshold = s.dropThreshold := rfl
@[simp] theorem noteTxDropped_isEssential : (s.noteTxDropped).isEssential = s.isEssential := rfl
@[simp] theorem noteTxDropped_lastBusActivity : (s.noteTxDropped).lastBusActivity = s.lastBusActivity := rfl
@[simp] theorem noteTxDropped_txSlots : (s.noteTxDropped).txSlots = s.txSlots := rfl
@[simp] theorem noteTxDropped_txHead : (s.noteTxDropped).txHead = s.txHead := rfl
@[simp] theorem noteTxDropped_txTail : (s.noteTxDropped).txTail = s.txTail := rfl
@[simp] theorem noteTxDropped_txPinLevel : (s.noteTxDropped).txPinLevel = s.txPinLevel := rfl
@[simp] theorem noteTxDropped_rxStats : (s.noteTxDropped).rxStats = s.rxStats := rfl
@[simp] theorem noteTxDropped_txStats : (s.noteTxDropped).txStats = { s.txStats with txDropped := s.txStats.txDropped + 1 } := rfl
@[simp] theorem noteTxDropped_repairStats : (s.noteTxDropped).repairStats = s.repairStats := rfl

/-! ### noteSent -/

@[simp] theorem noteSent_params (n : Word) : (s.noteSent n).params = s.params := rfl
@[simp] theorem noteSent_input (n : Word) : (s.noteSent n).input = s.input := rfl
@[simp] theorem noteSent_result (n : Word) : (s.noteSent n).result = s.result := rfl
@[simp] theorem noteSent_send (n : Word) : (s.noteSent n).send = s.send := rfl
@[simp] theorem noteSent_configured (n : Word) : (s.noteSent n).configured = s.configured := rfl
@[simp] theorem noteSent_q (n : Word) : (s.noteSent n).q = s.q := rfl
@[simp] theorem noteSent_rxPin (n : Word) : (s.noteSent n).rxPin = s.rxPin := rfl
@[simp] theorem noteSent_txPin (n : Word) : (s.noteSent n).txPin = s.txPin := rfl
@[simp] theorem noteSent_rxHostEnabled (n : Word) : (s.noteSent n).rxHostEnabled = s.rxHostEnabled := rfl
@[simp] theorem noteSent_rxTxSuspended (n : Word) : (s.noteSent n).rxTxSuspended = s.rxTxSuspended := rfl
@[simp] theorem noteSent_txTimerEnabled (n : Word) : (s.noteSent n).txTimerEnabled = s.txTimerEnabled := rfl
@[simp] theorem noteSent_prevEdgeTime (n : Word) : (s.noteSent n).prevEdgeTime = s.prevEdgeTime := rfl
@[simp] theorem noteSent_readBits (n : Word) : (s.noteSent n).readBits = s.readBits := rfl
@[simp] theorem noteSent_nBits (n : Word) : (s.noteSent n).nBits = s.nBits := rfl
@[simp] theorem noteSent_jitter (n : Word) : (s.noteSent n).jitter = s.jitter := rfl
@[simp] theorem noteSent_ackArmed (n : Word) : (s.noteSent n).ackArmed = s.ackArmed := rfl
@[simp] theorem noteSent_ackDeadline (n : Word) : (s.noteSent n).ackDeadline = s.ackDeadline := rfl
@[simp] theorem noteSent_rxSlots (n : Word) : (s.noteSent n).rxSlots = s.rxSlots := rfl
@[simp] theorem noteSent_head (n : Word) : (s.noteSent n).head = s.head := rfl
@[simp] theorem noteSent_tail (n : Word) : (s.noteSent n).tail = s.tail := rfl
@[simp] theorem noteSent_overrun (n : Word) : (s.noteSent n).overrun = s.overrun := rfl
@[simp] theorem noteSent_dropEnabled (n : Word) : (s.noteSent n).dropEnabled = s.dropEnabled := rfl
@[simp] theorem noteSent_dropThreshold (n : Word) : (s.noteSent n).dropThreshold = s.dropThreshold := rfl
@[simp] theorem noteSent_isEssential (n : Word) : (s.noteSent n).isEssential = s.isEssential := rfl
@[simp] theorem noteSent_lastBusActivity (n : Word) : (s.noteSent n).lastBusActivity = s.lastBusActivity := rfl
@[simp] theorem noteSent_txSlots (n : Word) : (s.noteSent n).txSlots = s.txSlots := rfl
@[simp] theorem noteSent_txHead (n : Word) : (s.noteSent n).txHead = s.txHead := rfl
@[simp] theorem noteSent_txTail (n : Word) : (s.noteSent n).txTail = s.txTail := rfl
@[simp] theorem noteSent_txPinLevel (n : Word) : (s.noteSent n).txPinLevel = s.txPinLevel := rfl
@[simp] theorem noteSent_rxStats (n : Word) : (s.noteSent n).rxStats = s.rxStats := rfl
@[simp] theorem noteSent_repairStats (n : Word) : (s.noteSent n).repairStats = s.repairStats := rfl

/-! ### noteCorrupt -/

@[simp] theorem noteCorrupt_params : (s.noteCorrupt).params = s.params := rfl
@[simp] theorem noteCorrupt_input : (s.noteCorrupt).input = s.input := rfl
@[simp] theorem noteCorrupt_result : (s.noteCorrupt).result = s.result := rfl
@[simp] theorem noteCorrupt_send : (s.noteCorrupt).send = s.send := rfl
@[simp] theorem noteCorrupt_configured : (s.noteCorrupt).configured = s.configured := rfl
@[simp] theorem noteCorrupt_q : (s.noteCorrupt).q = s.q := rfl
@[simp] theorem noteCorrupt_rxPin : (s.noteCorrupt).rxPin = s.rxPin := rfl
@[simp] theorem noteCorrupt_txPin : (s.noteCorrupt).txPin = s.txPin := rfl
@[simp] theorem noteCorrupt_rxHostEnabled : (s.noteCorrupt).rxHostEnabled = s.rxHostEnabled := rfl
@[simp] theorem noteCorrupt_rxTxSuspended : (s.noteCorrupt).rxTxSuspended = s.rxTxSuspended := rfl
@[simp] theorem noteCorrupt_txTimerEnabled : (s.noteCorrupt).txTimerEnabled = s.txTimerEnabled := rfl
@[simp] theorem noteCorrupt_prevEdgeTime : (s.noteCorrupt).prevEdgeTime = s.prevEdgeTime := rfl
@[simp] theorem noteCorrupt_readBits : (s.noteCorrupt).readBits = s.readBits := rfl
@[simp] theorem noteCorrupt_nBits : (s.noteCorrupt).nBits = s.nBits := rfl
@[simp] theorem noteCorrupt_jitter : (s.noteCorrupt).jitter = s.jitter := rfl
@[simp] theorem noteCorrupt_ackArmed : (s.noteCorrupt).ackArmed = s.ackArmed := rfl
@[simp] theorem noteCorrupt_ackDeadline : (s.noteCorrupt).ackDeadline = s.ackDeadline := rfl
@[simp] theorem noteCorrupt_rxSlots : (s.noteCorrupt).rxSlots = s.rxSlots := rfl
@[simp] theorem noteCorrupt_head : (s.noteCorrupt).head = s.head := rfl
@[simp] theorem noteCorrupt_tail : (s.noteCorrupt).tail = s.tail := rfl
@[simp] theorem noteCorrupt_overrun : (s.noteCorrupt).overrun = s.overrun := rfl
@[simp] theorem noteCorrupt_dropEnabled : (s.noteCorrupt).dropEnabled = s.dropEnabled := rfl
@[simp] theorem noteCorrupt_dropThreshold : (s.noteCorrupt).dropThreshold = s.dropThreshold := rfl
@[simp] theorem noteCorrupt_isEssential : (s.noteCorrupt).isEssential = s.isEssential := rfl
@[simp] theorem noteCorrupt_lastBusActivity : (s.noteCorrupt).lastBusActivity = s.lastBusActivity := rfl
@[simp] theorem noteCorrupt_txSlots : (s.noteCorrupt).txSlots = s.txSlots := rfl
@[simp] theorem noteCorrupt_txHead : (s.noteCorrupt).txHead = s.txHead := rfl
@[simp] theorem noteCorrupt_txTail : (s.noteCorrupt).txTail = s.txTail := rfl
@[simp] theorem noteCorrupt_txPinLevel : (s.noteCorrupt).txPinLevel = s.txPinLevel := rfl
@[simp] theorem noteCorrupt_rxStats : (s.noteCorrupt).rxStats = s.rxStats := rfl
@[simp] theorem noteCorrupt_txStats : (s.noteCorrupt).txStats = s.txStats := rfl
@[simp] theorem noteCorrupt_repairStats : (s.noteCorrupt).repairStats = { s.repairStats with nCorrupt := s.repairStats.nCorrupt + 1 } := rfl

/-! ### noteRepaired -/

@[simp] theorem noteRepaired_params (m : RepairMethod) : (s.noteRepaired m).params = s.params := rfl
@[simp] theorem noteRepaired_input (m : RepairMethod) : (s.noteRepaired m).input = s.input := rfl
@[simp] theorem noteRepaired_result (m : RepairMethod) : (s.noteRepaired m).result = s.result := rfl
@[simp] theorem noteRepaired_send (m : RepairMethod) : (s.noteRepaired m).send = s.send := rfl
@[simp] theorem noteRepaired_configured (m : RepairMethod) : (s.noteRepaired m).configured = s.configured := rfl
@[simp] theorem noteRepaired_q (m : RepairMethod) : (s.noteRepaired m).q = s.q := rfl
@[simp] theorem noteRepaired_rxPin (m : RepairMethod) : (s.noteRepaired m).rxPin = s.rxPin := rfl
@[simp] theorem noteRepaired_txPin (m : RepairMethod) : (s.noteRepaired m).txPin = s.txPin := rfl
@[simp] theorem noteRepaired_rxHostEnabled (m : RepairMethod) : (s.noteRepaired m).rxHostEnabled = s.rxHostEnabled := rfl
@[simp] theorem noteRepaired_rxTxSuspended (m : RepairMethod) : (s.noteRepaired m).rxTxSuspended = s.rxTxSuspended := rfl
@[simp] theorem noteRepaired_txTimerEnabled (m : RepairMethod) : (s.noteRepaired m).txTimerEnabled = s.txTimerEnabled := rfl
@[simp] theorem noteRepaired_prevEdgeTime (m : RepairMethod) : (s.noteRepaired m).prevEdgeTime = s.prevEdgeTime := rfl
@[simp] theorem noteRepaired_readBits (m : RepairMethod) : (s.noteRepaired m).readBits = s.readBits := rfl
@[simp] theorem noteRepaired_nBits (m : RepairMethod) : (s.noteRepaired m).nBits = s.nBits := rfl
@[simp] theorem noteRepaired_jitter (m : RepairMethod) : (s.noteRepaired m).jitter = s.jitter := rfl
@[simp] theorem noteRepaired_ackArmed (m : RepairMethod) : (s.noteRepaired m).ackArmed = s.ackArmed := rfl
@[simp] theorem noteRepaired_ackDeadline (m : RepairMethod) : (s.noteRepaired m).ackDeadline = s.ackDeadline := rfl
@[simp] theorem noteRepaired_rxSlots (m : RepairMethod) : (s.noteRepaired m).rxSlots = s.rxSlots := rfl
@[simp] theorem noteRepaired_head (m : RepairMethod) : (s.noteRepaired m).head = s.head := rfl
@[simp] theorem noteRepaired_tail (m : RepairMethod) : (s.noteRepaired m).tail = s.tail := rfl
@[simp] theorem noteRepaired_overrun (m : RepairMethod) : (s.noteRepaired m).overrun = s.overrun := rfl
@[simp] theorem noteRepaired_dropEnabled (m : RepairMethod) : (s.noteRepaired m).dropEnabled = s.dropEnabled := rfl
@[simp] theorem noteRepaired_dropThreshold (m : RepairMethod) : (s.noteRepaired m).dropThreshold = s.dropThreshold := rfl
@[simp] theorem noteRepaired_isEssential (m : RepairMethod) : (s.noteRepaired m).isEssential = s.isEssential := rfl
@[simp] theorem noteRepaired_lastBusActivity (m : RepairMethod) : (s.noteRepaired m).lastBusActivity = s.lastBusActivity := rfl
@[simp] theorem noteRepaired_txSlots (m : RepairMethod) : (s.noteRepaired m).txSlots = s.txSlots := rfl
@[simp] theorem noteRepaired_txHead (m : RepairMethod) : (s.noteRepaired m).txHead = s.txHead := rfl
@[simp] theorem noteRepaired_txTail (m : RepairMethod) : (s.noteRepaired m).txTail = s.txTail := rfl
@[simp] theorem noteRepaired_txPinLevel (m : RepairMethod) : (s.noteRepaired m).txPinLevel = s.txPinLevel := rfl
@[simp] theorem noteRepaired_rxStats (m : RepairMethod) : (s.noteRepaired m).rxStats = s.rxStats := rfl
@[simp] theorem noteRepaired_txStats (m : RepairMethod) : (s.noteRepaired m).txStats = s.txStats := rfl

/-! ### endSend -/

@[simp] theorem endSend_params (ok : Bit) : (s.endSend ok).params = s.params := rfl
@[simp] theorem endSend_input (ok : Bit) : (s.endSend ok).input = s.input := rfl
@[simp] theorem endSend_result (ok : Bit) : (s.endSend ok).result = .u1 ok := rfl
@[simp] theorem endSend_send (ok : Bit) : (s.endSend ok).send = none := rfl
@[simp] theorem endSend_configured (ok : Bit) : (s.endSend ok).configured = s.configured := rfl
@[simp] theorem endSend_q (ok : Bit) : (s.endSend ok).q = s.q := rfl
@[simp] theorem endSend_rxPin (ok : Bit) : (s.endSend ok).rxPin = s.rxPin := rfl
@[simp] theorem endSend_txPin (ok : Bit) : (s.endSend ok).txPin = s.txPin := rfl
@[simp] theorem endSend_rxHostEnabled (ok : Bit) : (s.endSend ok).rxHostEnabled = s.rxHostEnabled := rfl
@[simp] theorem endSend_rxTxSuspended (ok : Bit) : (s.endSend ok).rxTxSuspended = s.rxTxSuspended := rfl
@[simp] theorem endSend_txTimerEnabled (ok : Bit) : (s.endSend ok).txTimerEnabled = s.txTimerEnabled := rfl
@[simp] theorem endSend_prevEdgeTime (ok : Bit) : (s.endSend ok).prevEdgeTime = s.prevEdgeTime := rfl
@[simp] theorem endSend_readBits (ok : Bit) : (s.endSend ok).readBits = s.readBits := rfl
@[simp] theorem endSend_nBits (ok : Bit) : (s.endSend ok).nBits = s.nBits := rfl
@[simp] theorem endSend_jitter (ok : Bit) : (s.endSend ok).jitter = s.jitter := rfl
@[simp] theorem endSend_ackArmed (ok : Bit) : (s.endSend ok).ackArmed = s.ackArmed := rfl
@[simp] theorem endSend_ackDeadline (ok : Bit) : (s.endSend ok).ackDeadline = s.ackDeadline := rfl
@[simp] theorem endSend_rxSlots (ok : Bit) : (s.endSend ok).rxSlots = s.rxSlots := rfl
@[simp] theorem endSend_head (ok : Bit) : (s.endSend ok).head = s.head := rfl
@[simp] theorem endSend_tail (ok : Bit) : (s.endSend ok).tail = s.tail := rfl
@[simp] theorem endSend_overrun (ok : Bit) : (s.endSend ok).overrun = s.overrun := rfl
@[simp] theorem endSend_dropEnabled (ok : Bit) : (s.endSend ok).dropEnabled = s.dropEnabled := rfl
@[simp] theorem endSend_dropThreshold (ok : Bit) : (s.endSend ok).dropThreshold = s.dropThreshold := rfl
@[simp] theorem endSend_isEssential (ok : Bit) : (s.endSend ok).isEssential = s.isEssential := rfl
@[simp] theorem endSend_lastBusActivity (ok : Bit) : (s.endSend ok).lastBusActivity = s.lastBusActivity := rfl
@[simp] theorem endSend_txSlots (ok : Bit) : (s.endSend ok).txSlots = s.txSlots := rfl
@[simp] theorem endSend_txHead (ok : Bit) : (s.endSend ok).txHead = s.txHead := rfl
@[simp] theorem endSend_txTail (ok : Bit) : (s.endSend ok).txTail = s.txTail := rfl
@[simp] theorem endSend_txPinLevel (ok : Bit) : (s.endSend ok).txPinLevel = s.txPinLevel := rfl
@[simp] theorem endSend_rxStats (ok : Bit) : (s.endSend ok).rxStats = s.rxStats := rfl
@[simp] theorem endSend_txStats (ok : Bit) : (s.endSend ok).txStats = s.txStats := rfl
@[simp] theorem endSend_repairStats (ok : Bit) : (s.endSend ok).repairStats = s.repairStats := rfl

/-! ### waitSend -/

@[simp] theorem waitSend_params (h : Send) (ms : Word) : (s.waitSend h ms).params = s.params := rfl
@[simp] theorem waitSend_input (h : Send) (ms : Word) : (s.waitSend h ms).input = s.input := rfl
@[simp] theorem waitSend_result (h : Send) (ms : Word) : (s.waitSend h ms).result = .pending := rfl
@[simp] theorem waitSend_send (h : Send) (ms : Word) : (s.waitSend h ms).send = some { h with nextPollMs := ms + BitVec.ofNat 32 s.params.pollMs } := rfl
@[simp] theorem waitSend_configured (h : Send) (ms : Word) : (s.waitSend h ms).configured = s.configured := rfl
@[simp] theorem waitSend_q (h : Send) (ms : Word) : (s.waitSend h ms).q = s.q := rfl
@[simp] theorem waitSend_rxPin (h : Send) (ms : Word) : (s.waitSend h ms).rxPin = s.rxPin := rfl
@[simp] theorem waitSend_txPin (h : Send) (ms : Word) : (s.waitSend h ms).txPin = s.txPin := rfl
@[simp] theorem waitSend_rxHostEnabled (h : Send) (ms : Word) : (s.waitSend h ms).rxHostEnabled = s.rxHostEnabled := rfl
@[simp] theorem waitSend_rxTxSuspended (h : Send) (ms : Word) : (s.waitSend h ms).rxTxSuspended = s.rxTxSuspended := rfl
@[simp] theorem waitSend_txTimerEnabled (h : Send) (ms : Word) : (s.waitSend h ms).txTimerEnabled = s.txTimerEnabled := rfl
@[simp] theorem waitSend_prevEdgeTime (h : Send) (ms : Word) : (s.waitSend h ms).prevEdgeTime = s.prevEdgeTime := rfl
@[simp] theorem waitSend_readBits (h : Send) (ms : Word) : (s.waitSend h ms).readBits = s.readBits := rfl
@[simp] theorem waitSend_nBits (h : Send) (ms : Word) : (s.waitSend h ms).nBits = s.nBits := rfl
@[simp] theorem waitSend_jitter (h : Send) (ms : Word) : (s.waitSend h ms).jitter = s.jitter := rfl
@[simp] theorem waitSend_ackArmed (h : Send) (ms : Word) : (s.waitSend h ms).ackArmed = s.ackArmed := rfl
@[simp] theorem waitSend_ackDeadline (h : Send) (ms : Word) : (s.waitSend h ms).ackDeadline = s.ackDeadline := rfl
@[simp] theorem waitSend_rxSlots (h : Send) (ms : Word) : (s.waitSend h ms).rxSlots = s.rxSlots := rfl
@[simp] theorem waitSend_head (h : Send) (ms : Word) : (s.waitSend h ms).head = s.head := rfl
@[simp] theorem waitSend_tail (h : Send) (ms : Word) : (s.waitSend h ms).tail = s.tail := rfl
@[simp] theorem waitSend_overrun (h : Send) (ms : Word) : (s.waitSend h ms).overrun = s.overrun := rfl
@[simp] theorem waitSend_dropEnabled (h : Send) (ms : Word) : (s.waitSend h ms).dropEnabled = s.dropEnabled := rfl
@[simp] theorem waitSend_dropThreshold (h : Send) (ms : Word) : (s.waitSend h ms).dropThreshold = s.dropThreshold := rfl
@[simp] theorem waitSend_isEssential (h : Send) (ms : Word) : (s.waitSend h ms).isEssential = s.isEssential := rfl
@[simp] theorem waitSend_lastBusActivity (h : Send) (ms : Word) : (s.waitSend h ms).lastBusActivity = s.lastBusActivity := rfl
@[simp] theorem waitSend_txSlots (h : Send) (ms : Word) : (s.waitSend h ms).txSlots = s.txSlots := rfl
@[simp] theorem waitSend_txHead (h : Send) (ms : Word) : (s.waitSend h ms).txHead = s.txHead := rfl
@[simp] theorem waitSend_txTail (h : Send) (ms : Word) : (s.waitSend h ms).txTail = s.txTail := rfl
@[simp] theorem waitSend_txPinLevel (h : Send) (ms : Word) : (s.waitSend h ms).txPinLevel = s.txPinLevel := rfl
@[simp] theorem waitSend_rxStats (h : Send) (ms : Word) : (s.waitSend h ms).rxStats = s.rxStats := rfl
@[simp] theorem waitSend_txStats (h : Send) (ms : Word) : (s.waitSend h ms).txStats = s.txStats := rfl
@[simp] theorem waitSend_repairStats (h : Send) (ms : Word) : (s.waitSend h ms).repairStats = s.repairStats := rfl

/-! ### sendQueued -/

@[simp] theorem sendQueued_params (h : Send) (i : Nat) (ms : Word) : (s.sendQueued h i ms).params = s.params := rfl
@[simp] theorem sendQueued_input (h : Send) (i : Nat) (ms : Word) : (s.sendQueued h i ms).input = s.input := rfl
@[simp] theorem sendQueued_result (h : Send) (i : Nat) (ms : Word) : (s.sendQueued h i ms).result = .pending := rfl
@[simp] theorem sendQueued_send (h : Send) (i : Nat) (ms : Word) : (s.sendQueued h i ms).send = some { h with sendPhase := .waitDone, sendSlot := i, nextPollMs := ms } := rfl
@[simp] theorem sendQueued_configured (h : Send) (i : Nat) (ms : Word) : (s.sendQueued h i ms).configured = s.configured := rfl
@[simp] theorem sendQueued_q (h : Send) (i : Nat) (ms : Word) : (s.sendQueued h i ms).q = s.q := rfl
@[simp] theorem sendQueued_rxPin (h : Send) (i : Nat) (ms : Word) : (s.sendQueued h i ms).rxPin = s.rxPin := rfl
@[simp] theorem sendQueued_txPin (h : Send) (i : Nat) (ms : Word) : (s.sendQueued h i ms).txPin = s.txPin := rfl
@[simp] theorem sendQueued_rxHostEnabled (h : Send) (i : Nat) (ms : Word) : (s.sendQueued h i ms).rxHostEnabled = s.rxHostEnabled := rfl
@[simp] theorem sendQueued_rxTxSuspended (h : Send) (i : Nat) (ms : Word) : (s.sendQueued h i ms).rxTxSuspended = s.rxTxSuspended := rfl
@[simp] theorem sendQueued_txTimerEnabled (h : Send) (i : Nat) (ms : Word) : (s.sendQueued h i ms).txTimerEnabled = s.txTimerEnabled := rfl
@[simp] theorem sendQueued_prevEdgeTime (h : Send) (i : Nat) (ms : Word) : (s.sendQueued h i ms).prevEdgeTime = s.prevEdgeTime := rfl
@[simp] theorem sendQueued_readBits (h : Send) (i : Nat) (ms : Word) : (s.sendQueued h i ms).readBits = s.readBits := rfl
@[simp] theorem sendQueued_nBits (h : Send) (i : Nat) (ms : Word) : (s.sendQueued h i ms).nBits = s.nBits := rfl
@[simp] theorem sendQueued_jitter (h : Send) (i : Nat) (ms : Word) : (s.sendQueued h i ms).jitter = s.jitter := rfl
@[simp] theorem sendQueued_ackArmed (h : Send) (i : Nat) (ms : Word) : (s.sendQueued h i ms).ackArmed = s.ackArmed := rfl
@[simp] theorem sendQueued_ackDeadline (h : Send) (i : Nat) (ms : Word) : (s.sendQueued h i ms).ackDeadline = s.ackDeadline := rfl
@[simp] theorem sendQueued_rxSlots (h : Send) (i : Nat) (ms : Word) : (s.sendQueued h i ms).rxSlots = s.rxSlots := rfl
@[simp] theorem sendQueued_head (h : Send) (i : Nat) (ms : Word) : (s.sendQueued h i ms).head = s.head := rfl
@[simp] theorem sendQueued_tail (h : Send) (i : Nat) (ms : Word) : (s.sendQueued h i ms).tail = s.tail := rfl
@[simp] theorem sendQueued_overrun (h : Send) (i : Nat) (ms : Word) : (s.sendQueued h i ms).overrun = s.overrun := rfl
@[simp] theorem sendQueued_dropEnabled (h : Send) (i : Nat) (ms : Word) : (s.sendQueued h i ms).dropEnabled = s.dropEnabled := rfl
@[simp] theorem sendQueued_dropThreshold (h : Send) (i : Nat) (ms : Word) : (s.sendQueued h i ms).dropThreshold = s.dropThreshold := rfl
@[simp] theorem sendQueued_isEssential (h : Send) (i : Nat) (ms : Word) : (s.sendQueued h i ms).isEssential = s.isEssential := rfl
@[simp] theorem sendQueued_lastBusActivity (h : Send) (i : Nat) (ms : Word) : (s.sendQueued h i ms).lastBusActivity = s.lastBusActivity := rfl
@[simp] theorem sendQueued_txSlots (h : Send) (i : Nat) (ms : Word) : (s.sendQueued h i ms).txSlots = s.txSlots := rfl
@[simp] theorem sendQueued_txHead (h : Send) (i : Nat) (ms : Word) : (s.sendQueued h i ms).txHead = s.txHead := rfl
@[simp] theorem sendQueued_txTail (h : Send) (i : Nat) (ms : Word) : (s.sendQueued h i ms).txTail = s.txTail := rfl
@[simp] theorem sendQueued_txPinLevel (h : Send) (i : Nat) (ms : Word) : (s.sendQueued h i ms).txPinLevel = s.txPinLevel := rfl
@[simp] theorem sendQueued_rxStats (h : Send) (i : Nat) (ms : Word) : (s.sendQueued h i ms).rxStats = s.rxStats := rfl
@[simp] theorem sendQueued_txStats (h : Send) (i : Nat) (ms : Word) : (s.sendQueued h i ms).txStats = s.txStats := rfl
@[simp] theorem sendQueued_repairStats (h : Send) (i : Nat) (ms : Word) : (s.sendQueued h i ms).repairStats = s.repairStats := rfl

end Sys2Proof.Machine.State
end

