-- ==== Sys2Proof/Laws/Rx.lean ====
section
/-! SUPPORT. The receive side, operation by operation: one lemma says everything that can happen when the operation
answers a next state, guards included. A proof cites these and unfolds no handler. -/

namespace Sys2Proof.Machine

open Sys2Proof.Config

/-- `advanceHead` moves `head` on, clears the slot there, and notes the backlog (42_rx_decoder.md R198). -/
theorem advanceHead_next {s s' : State} (h : advanceHead s = .next s') :
    ∃ slot, s.rxSlots[(s.head + 1) % s.q.toNat]? = some slot ∧ s' = (clearHead slot (moveHead s)).noteQueued := by
  unfold advanceHead at h
  dsimp only at h
  split at h
  · cases h
  · rename_i slot hs
    exact ⟨slot, hs, by cases h; rfl⟩

/-- `advanceHead` ends in a next state when the next slot exists. -/
theorem advanceHead_eq {s : State} {slot : RxSlot} (h : s.rxSlots[(s.head + 1) % s.q.toNat]? = some slot) :
    advanceHead s = .next (clearHead slot (moveHead s)).noteQueued := by
  unfold advanceHead
  have : (moveHead s).rxSlots[(moveHead s).head]? = some slot := h
  simp only [this]

/-- `complete` takes the sequence number and finishes the slot, then drops the frame or advances `head` (R196). -/
theorem complete_next {result : RxResult} {ms : Word} {slot : RxSlot} {s s' : State}
    (h : complete result ms slot s = .next s') :
    (dropTest (completedSlot result ms slot s) (completedState result ms slot s) = true ∧
      s' = dropFrame (completedState result ms slot s)) ∨
    (dropTest (completedSlot result ms slot s) (completedState result ms slot s) = false ∧
      advanceHead (completedState result ms slot s) = .next s') := by
  unfold complete at h
  by_cases hd : dropTest (completedSlot result ms slot s) (completedState result ms slot s) = true
  · simp only [hd, if_true] at h
    exact .inl ⟨hd, by cases h; rfl⟩
  · simp only [hd] at h
    exact .inr ⟨by simpa using hd, h⟩

/-- `loadGroup` ends the frame at the 34th group, enters WAITING_ACK at an EOD group, or stores a byte (R191, R192). -/
theorem loadGroup_next {g : Group} {ts : Stamp} {slot : RxSlot} {s s' : State}
    (h : loadGroup g ts slot s = .next s') :
    (maxFrame ≤ slot.size ∧ complete .errorMaxPacket ts.ms slot s = .next s') ∨
    (slot.size < maxFrame ∧ isEod s.params g = true ∧ minEodSize ≤ slot.size + 1 ∧
      s' = enterWaitAck ts.now (storeGroup g slot) s) ∨
    (slot.size < maxFrame ∧ (isEod s.params g = false ∨ slot.size + 1 < minEodSize) ∧
      s' = s.putRx s.head (storeGroup g slot)) := by
  unfold loadGroup at h
  by_cases hm : maxFrame ≤ slot.size
  · simp only [hm, if_true] at h
    exact .inl ⟨hm, h⟩
  · simp only [hm, if_false] at h
    by_cases he : (isEod s.params g && decide (minEodSize ≤ (storeGroup g slot).size)) = true
    · simp only [he, if_true] at h
      have hh := he
      simp only [Bool.and_eq_true, decide_eq_true_eq] at hh
      exact .inr (.inl ⟨by omega, hh.1, hh.2, by cases h; rfl⟩)
    · rw [if_neg he] at h
      refine .inr (.inr ⟨by omega, ?_, by cases h; rfl⟩)
      by_cases hg : isEod s.params g = true
      · right
        by_contra hc
        exact he (by simp only [hg, Bool.true_and, decide_eq_true_eq]; exact Nat.le_of_not_lt hc)
      · left; simpa using hg

/-- The two ends of a search on its first group (R187). -/
theorem sofGroup_cases (g : Group) (slot : RxSlot) (s : State) :
    (isSof s.params g = true ∧ sofGroup g slot s = s.putRx s.head
      { slot with bytes := writeByte slot.bytes 0 sofByte, size := 1, state := .loading }) ∨
    (isSof s.params g = false ∧ sofGroup g slot s = endSearch slot s) := by
  unfold sofGroup
  cases isSof s.params g <;> simp

/-- `takeGroup` gives the oldest group to the SOF test or to the frame (R185). -/
theorem takeGroup_next {ts : Stamp} {slot : RxSlot} {s s' : State} (h : takeGroup ts slot s = .next s') :
    (slot.state = .searching ∧ s' = sofGroup (oldestGroup s) slot (dropGroup s)) ∨
    (slot.state ≠ .searching ∧ loadGroup (oldestGroup s) ts slot (dropGroup s) = .next s') := by
  unfold takeGroup at h
  by_cases hs : slot.state = .searching
  · simp only [hs, if_true] at h
    exact .inl ⟨hs, by cases h; rfl⟩
  · simp only [hs, if_false] at h
    exact .inr ⟨hs, h⟩

/-- `acceptRun` appends the corrected run, and takes a group when ten bits are there (R184, R185). -/
theorem acceptRun_next {v : Bit} {r : BitCount} {ts : Stamp} {slot : RxSlot} {s s' : State}
    (h : acceptRun v r ts slot s = .next s') :
    let f := correctRun s.params v s.nBits r slot
    (groupBits ≤ s.nBits + f.n ∧ takeGroup ts f.slot (appendRun v f.n f.jitter s) = .next s') ∨
    (s.nBits + f.n < groupBits ∧ s' = (appendRun v f.n f.jitter s).putRx s.head f.slot) := by
  intro f
  unfold acceptRun at h
  by_cases hg : groupBits ≤ s.nBits + f.n
  · exact .inl ⟨hg, by simpa [appendRun, f, hg] using h⟩
  · refine .inr ⟨by omega, ?_⟩
    have : ¬ groupBits ≤ (appendRun v f.n f.jitter s).nBits := hg
    simp only [f] at this
    simp only [this, if_false] at h
    cases h; rfl

/-- `runStep` ends a search or a frame at a run of more than ten bits, and else accepts the run (R184, R186, R190). -/
theorem runStep_next {level : Bit} {c : Word} {ts : Stamp} {slot : RxSlot} {s s' : State}
    (h : runStep level c ts slot s = .next s') :
    (maxRunBits < (bitCount s.params c s.jitter).n ∧ slot.state = .searching ∧ s' = endSearch slot s) ∨
    (maxRunBits < (bitCount s.params c s.jitter).n ∧ slot.state ≠ .searching ∧
      complete .errorNBits ts.ms slot s = .next s') ∨
    ((bitCount s.params c s.jitter).n ≤ maxRunBits ∧
      acceptRun (!level) (bitCount s.params c s.jitter) ts slot s = .next s') := by
  unfold runStep at h
  by_cases hn : maxRunBits < (bitCount s.params c s.jitter).n
  · simp only [hn, if_true] at h
    by_cases hs : slot.state = .searching
    · simp only [hs, if_true] at h
      exact .inl ⟨hn, hs, by cases h; rfl⟩
    · simp only [hs, if_false] at h
      exact .inr (.inl ⟨hn, hs, h⟩)
  · simp only [hn, if_false] at h
    exact .inr (.inr ⟨by omega, h⟩)

/-- `ackEdge` cancels the timer, and takes the edge as the ACK pulse or as the first edge of more data (R193). -/
theorem ackEdge_next {level : Bit} {c : Word} {ts : Stamp} {slot : RxSlot} {s s' : State}
    (h : ackEdge level c ts slot s = .next s') :
    (isAckPulse s.params level c = true ∧
      complete .ok ts.ms { slot with ack := .ack } (cancelTimer s) = .next s') ∨
    (isAckPulse s.params level c = false ∧
      runStep level c ts { slot with state := .loading } (cancelTimer s) = .next s') := by
  unfold ackEdge at h
  have hq : (cancelTimer s).params = s.params := rfl
  dsimp only at h
  rw [hq] at h
  by_cases hp : isAckPulse s.params level c = true
  · rw [if_pos hp] at h
    exact .inl ⟨hp, h⟩
  · rw [if_neg hp] at h
    exact .inr ⟨by simpa using hp, h⟩

/-- The edge handler dispatches on the state of the slot at `head` (R180). -/
theorem edgeHandler_next {level : Bit} {ts : Stamp} {s s' : State} (h : edgeHandler level ts s = .next s') :
    ∃ slot, s.rxSlots[s.head]? = some slot ∧
      ((slot.state = .vacant ∧ s' = vacantEdge level slot (edgePrologue level ts.now s)) ∨
       ((slot.state = .searching ∨ slot.state = .loading) ∧
        runStep level (elapsed s.prevEdgeTime ts.now) ts slot (edgePrologue level ts.now s) = .next s') ∨
       (slot.state = .waitingAck ∧
        ackEdge level (elapsed s.prevEdgeTime ts.now) ts slot (edgePrologue level ts.now s) = .next s')) := by
  unfold edgeHandler at h
  have hr : (edgePrologue level ts.now s).rxSlots[(edgePrologue level ts.now s).head]? = s.rxSlots[s.head]? := rfl
  simp only [hr] at h
  split at h
  · cases h
  · rename_i slot hs
    refine ⟨slot, hs, ?_⟩
    split at h
    · exact .inl ⟨by assumption, by cases h; rfl⟩
    · exact .inr (.inl ⟨.inl (by assumption), h⟩)
    · exact .inr (.inl ⟨.inr (by assumption), h⟩)
    · exact .inr (.inr ⟨by assumption, h⟩)
    · cases h

/-- The ACK timer's handler completes a frame that waits for it (R194). -/
theorem ackTimeoutHandler_next {ts : Stamp} {s s' : State} (h : ackTimeoutHandler ts s = .next s') :
    ∃ slot, s.rxSlots[s.head]? = some slot ∧
      ((slot.state = .waitingAck ∧
        complete .ok ts.ms { slot with ack := .noAck } (cancelTimer s) = .next s') ∨
       (slot.state ≠ .waitingAck ∧ s' = (cancelTimer s))) := by
  unfold ackTimeoutHandler at h
  dsimp only at h
  split at h
  · cases h
  · rename_i slot hs
    refine ⟨slot, hs, ?_⟩
    by_cases hw : slot.state = .waitingAck
    · simp only [hw, if_true] at h
      exact .inl ⟨hw, h⟩
    · simp only [hw, if_false] at h
      exact .inr ⟨hw, by cases h; rfl⟩

/-- A delivered event runs its handler; another changes nothing (60_exceptions.md R362). -/
theorem deliver_next {enabled : Bool} {handler : State → Out} {s s' : State} (h : deliver enabled handler s = .next s') :
    (enabled = true ∧ handler s = .next s') ∨ (enabled = false ∧ s' = s) := by
  cases enabled
  · exact .inr ⟨rfl, by cases h; rfl⟩
  · exact .inl ⟨rfl, h⟩

/-- Every outcome of RECEIVE that is a next state (44_rx_queue.md R265). -/
theorem execReceive_next {s s' : State} (h : execReceive s = .next s') :
    (∃ slot, s.configured = true ∧ s.rxSlots[s.tail]? = some slot ∧ slot.state = .done ∧
      s' = (takeFrame s).answer (.received true (slotRecord slot) s.overrun)) ∨
    ((s.configured = false ∨ ∃ slot, s.rxSlots[s.tail]? = some slot ∧ slot.state ≠ .done) ∧ s' = receiveNothing s) := by
  unfold execReceive at h
  by_cases hc : s.configured = true
  · simp only [hc, if_true] at h
    split at h
    · cases h
    · rename_i slot hs
      by_cases hd : slot.state = .done
      · simp only [hd, if_true] at h
        exact .inl ⟨slot, hc, hs, hd, by cases h; rfl⟩
      · simp only [hd, if_false] at h
        exact .inr ⟨.inr ⟨slot, hs, hd⟩, by cases h; rfl⟩
  · rw [if_neg hc] at h
    exact .inr ⟨.inl (by simpa using hc), by cases h; rfl⟩

/-- SETUP refuses, or puts every field at its after-SETUP value (44_rx_queue.md R260). -/
theorem execSetup_cases (rxPin txPin capacity : Word) (ts : Stamp) (s : State) :
    ((s.configured = true ∨ capacityOk s.params capacity = false) ∧
      execSetup rxPin txPin capacity ts s = .next (s.answer (.u1 false))) ∨
    (s.configured = false ∧ capacityOk s.params capacity = true ∧
      execSetup rxPin txPin capacity ts s = .next ((setupState rxPin txPin capacity ts.now s).answer (.u1 true))) := by
  unfold execSetup
  cases s.configured <;> cases capacityOk s.params capacity <;> simp

end Sys2Proof.Machine
end

