-- ==== Sys2Proof/Laws/Tx.lean ====
section
/-! SUPPORT. The transmit side, operation by operation: one lemma says everything that can happen when the operation
answers a next state, guards included. A proof cites these and unfolds no handler. -/

namespace Sys2Proof.Machine

open Sys2Proof.Config

/-! ### Building a frame -/

theorem frameHead_length {data : List Byte} {len : Byte} (iden : BitVec 12) (flags : BitVec 4)
    (h : badLength data len = false) : (frameHead iden flags data len).length = len.toNat + 3 := by
  simp only [badLength, Bool.or_eq_false_iff, decide_eq_false_iff_not] at h
  simp [frameHead]
  omega

/-- A built frame has `len + 5` bytes (45_tx.md R300). -/
theorem buildFrame_length {data : List Byte} {len : Byte} (iden : BitVec 12) (flags : BitVec 4)
    (h : badLength data len = false) : (buildFrame iden flags data len).length = len.toNat + 5 := by
  simp [buildFrame, frameHead_length iden flags h]

/-- A legal length is at most 28 (R300). -/
theorem len_le_of_not_badLength {data : List Byte} {len : Byte} (h : badLength data len = false) :
    len.toNat ≤ maxData ∧ len.toNat ≤ data.length := by
  simp only [badLength, Bool.or_eq_false_iff, decide_eq_false_iff_not] at h
  omega

/-! ### Queueing -/

/-- Everything one attempt to enqueue can do (R302). -/
theorem enqueue_cases (iden : BitVec 12) (flags : BitVec 4) (data : List Byte) (len : Byte) (s : State) :
    ((s.configured = false ∨ badLength data len = true) ∧ enqueue iden flags data len s = .rejected) ∨
    (s.configured = true ∧ badLength data len = false ∧
      ((s.txSlots[s.txHead]? = none ∧ enqueue iden flags data len s = .outOfRange) ∨
       ∃ t, s.txSlots[s.txHead]? = some t ∧
        ((t.state = .done ∧ enqueue iden flags data len s = .queued (queueFrame iden flags data len s)) ∨
         (t.state ≠ .done ∧ enqueue iden flags data len s = .rejected)))) := by
  unfold enqueue
  cases hc : s.configured
  · simp
  · cases hb : badLength data len
    · right
      refine ⟨rfl, rfl, ?_⟩
      cases ht : s.txSlots[s.txHead]? with
      | none => simp
      | some t => by_cases hd : t.state = .done <;> simp [hd]
    · simp

/-- TX_ENQUEUE in terms of the attempt (R302). -/
theorem execTxEnqueue_next {iden : BitVec 12} {flags : BitVec 4} {data : List Byte} {len : Byte} {s s' : State}
    (h : execTxEnqueue iden flags data len s = .next s') :
    (∃ u, enqueue iden flags data len s = .queued u ∧ s' = u.answer (.u1 true)) ∨
    (enqueue iden flags data len s = .rejected ∧ s' = s.answer (.u1 false)) := by
  unfold execTxEnqueue at h
  split at h
  · rename_i u hu; exact .inl ⟨u, hu, by cases h; rfl⟩
  · rename_i hu; exact .inr ⟨hu, by cases h; rfl⟩
  · cases h

/-! ### Blocking sends -/

/-- When the timeout of a send has passed (R303). -/
theorem sendTimedOut_iff (h : Send) (ms : Word) :
    sendTimedOut h ms = true ↔ h.sendTimeoutMs.toNat ≤ (ms - h.sendStartMs).toNat := decide_eq_true_iff

/-- One pass of phase WAIT_DONE (R304). -/
theorem waitDonePass_next {h : Send} {ms : Word} {s s' : State} (hp : waitDonePass h ms s = .next s') :
    ∃ t, s.txSlots[h.sendSlot]? = some t ∧
      ((t.state = .done ∧ s' = s.endSend true) ∨
       (t.state ≠ .done ∧ sendTimedOut h ms = true ∧ s' = s.endSend false) ∨
       (t.state ≠ .done ∧ sendTimedOut h ms = false ∧ s' = s.waitSend h ms)) := by
  unfold waitDonePass at hp
  split at hp
  · cases hp
  · rename_i t ht
    refine ⟨t, ht, ?_⟩
    by_cases hd : t.state = .done
    · simp only [hd, if_true] at hp
      exact .inl ⟨hd, by cases hp; rfl⟩
    · simp only [hd, if_false] at hp
      by_cases hm : sendTimedOut h ms = true
      · simp only [hm, if_true] at hp
        exact .inr (.inl ⟨hd, hm, by cases hp; rfl⟩)
      · rw [if_neg hm] at hp
        exact .inr (.inr ⟨hd, by simpa using hm, by cases hp; rfl⟩)

/-- One pass of phase WAIT_SLOT (R303, R304). -/
theorem waitSlotPass_next {h : Send} {ms : Word} {s s' : State} (hp : waitSlotPass h ms s = .next s') :
    (∃ u, enqueue h.iden h.flags h.data h.len s = .queued u ∧
      ((h.kind = .async ∧ s' = u.endSend true) ∨
       (h.kind = .sync ∧ s' = u.sendQueued h s.txHead ms))) ∨
    (enqueue h.iden h.flags h.data h.len s = .rejected ∧
      ((sendTimedOut h ms = true ∧ s' = s.noteTxDropped.endSend false) ∨
       (sendTimedOut h ms = false ∧ s' = s.waitSend h ms))) := by
  unfold waitSlotPass at hp
  split at hp
  · cases hp
  · rename_i u hu
    refine .inl ⟨u, hu, ?_⟩
    split at hp
    · exact .inl ⟨by assumption, by cases hp; rfl⟩
    · exact .inr ⟨by assumption, by cases hp; rfl⟩
  · rename_i hu
    refine .inr ⟨hu, ?_⟩
    by_cases hm : sendTimedOut h ms = true
    · simp only [hm, if_true] at hp
      exact .inl ⟨hm, by cases hp; rfl⟩
    · rw [if_neg hm] at hp
      exact .inr ⟨by simpa using hm, by cases hp; rfl⟩

/-- One pass of a blocking send (R303, R304). -/
theorem sendPass_next {h : Send} {ms : Word} {s s' : State} (hp : sendPass h ms s = .next s') :
    (h.sendPhase = .waitSlot ∧ waitSlotPass h ms s = .next s') ∨
    (h.sendPhase = .waitDone ∧ waitDonePass h ms s = .next s') := by
  unfold sendPass at hp
  split at hp
  · exact .inl ⟨by assumption, hp⟩
  · exact .inr ⟨by assumption, hp⟩

/-- Issuing a blocking send (R303, R304). -/
theorem startSend_next {kind : SendKind} {iden : BitVec 12} {flags : BitVec 4} {data : List Byte} {len : Byte}
    {timeoutMs : Word} {ts : Stamp} {s s' : State} (h : startSend kind iden flags data len timeoutMs ts s = .next s') :
    ((s.configured = false ∨ badLength data len = true) ∧ s' = s.endSend false) ∨
    (s.configured = true ∧ badLength data len = false ∧
      waitSlotPass (newSend kind iden flags data len timeoutMs ts.ms) ts.ms s = .next s') := by
  unfold startSend at h
  cases hc : s.configured <;> cases hb : badLength data len <;> simp [hc, hb] at h
  · exact .inl ⟨.inl rfl, h.symm⟩
  · exact .inl ⟨.inl rfl, h.symm⟩
  · exact .inr ⟨rfl, rfl, h⟩
  · exact .inl ⟨.inr rfl, h.symm⟩

/-! ### The bit timer -/

/-- The end of a transmission: `txTail` moves, and the timer stops unless a frame waits there (R314). -/
theorem finishFrame_next {t : TxSlot} {now : Word} {s s' : State} (h : finishFrame t now s = .next s') :
    ∃ u, (sentState t now s).txSlots[(s.txTail + 1) % s.params.txQ]? = some u ∧
      s' = { sentState t now s with
        txTail := (s.txTail + 1) % s.params.txQ
        txTimerEnabled := if u.state = .waiting then s.txTimerEnabled else false } := by
  unfold finishFrame at h
  dsimp only at h
  split at h
  · cases h
  · rename_i u hu
    exact ⟨u, hu, by cases h; rfl⟩

/-- The end of a sending tick (R309, R313, R314). -/
theorem advanceBit_next {t : TxSlot} {now : Word} {s s' : State} (h : advanceBit t now s = .next s') :
    (t.bitIndex = t.nTxBits ∧ finishFrame t now s = .next s') ∨
    (t.bitIndex ≠ t.nTxBits ∧ s' = nextBit t s) := by
  unfold advanceBit at h
  by_cases hb : t.bitIndex = t.nTxBits
  · rw [if_pos hb] at h; exact .inl ⟨hb, h⟩
  · rw [if_neg hb] at h; exact .inr ⟨hb, by cases h; rfl⟩

/-- A sending tick: a collision, a bit error, or a good bit (R309 to R312). -/
theorem sendTick_next {t : TxSlot} {sample : Bit} {now : Word} {s s' : State} (h : sendTick t sample now s = .next s') :
    (inWindow t = true ∧ sample = false ∧ intendedBit t = true ∧ s' = collide t (t.bitIndex - 1) now s) ∨
    (inWindow t = true ∧ sample = true ∧ intendedBit t = false ∧
      advanceBit t.noteBitError now s.noteBitError = .next s') ∨
    ((inWindow t = false ∨ sample = intendedBit t) ∧ advanceBit t now s = .next s') := by
  unfold sendTick at h
  cases hw : inWindow t <;> cases sample <;> cases hi : intendedBit t <;> simp [hw, hi] at h <;> simp [h]

/-- The tick handler dispatches on the slot at `txTail` (R305 to R308). -/
theorem tickHandler_next {sample : Bit} {ts : Stamp} {s s' : State} (h : tickHandler sample ts s = .next s') :
    ∃ t, s.txSlots[s.txTail]? = some t ∧
      ((t.state = .done ∧ s' = { s with txTimerEnabled := false }) ∨
       (t.state = .waiting ∧ busIdle s ts.now = true ∧ s' = startFrame t s) ∨
       (t.state = .waiting ∧ busIdle s ts.now = false ∧ s' = deferFrame t s) ∨
       (t.state = .sending ∧ sendTick t sample ts.now s = .next s')) := by
  unfold tickHandler at h
  split at h
  · cases h
  · rename_i t ht
    refine ⟨t, ht, ?_⟩
    split at h
    · exact .inl ⟨by assumption, by cases h; rfl⟩
    · cases hb : busIdle s ts.now
      · exact .inr (.inr (.inl ⟨by assumption, rfl, by simp [hb] at h; exact h.symm⟩))
      · exact .inr (.inl ⟨by assumption, rfl, by simp [hb] at h; exact h.symm⟩)
    · exact .inr (.inr (.inr ⟨by assumption, h⟩))

end Sys2Proof.Machine
end

