-- ==== Sys2Proof/Laws/Updates.lean ====
section
/-! SUPPORT. The named updates of the receive and transmit engines, field by field: what each field holds after
it. A proof cites these and unfolds no record update. -/

namespace Sys2Proof.Machine

variable (s : State)

/-! ### cancelTimer -/

@[simp] theorem cancelTimer_params : (cancelTimer s).params = s.params := rfl
@[simp] theorem cancelTimer_input : (cancelTimer s).input = s.input := rfl
@[simp] theorem cancelTimer_result : (cancelTimer s).result = s.result := rfl
@[simp] theorem cancelTimer_send : (cancelTimer s).send = s.send := rfl
@[simp] theorem cancelTimer_configured : (cancelTimer s).configured = s.configured := rfl
@[simp] theorem cancelTimer_q : (cancelTimer s).q = s.q := rfl
@[simp] theorem cancelTimer_rxPin : (cancelTimer s).rxPin = s.rxPin := rfl
@[simp] theorem cancelTimer_txPin : (cancelTimer s).txPin = s.txPin := rfl
@[simp] theorem cancelTimer_rxHostEnabled : (cancelTimer s).rxHostEnabled = s.rxHostEnabled := rfl
@[simp] theorem cancelTimer_rxTxSuspended : (cancelTimer s).rxTxSuspended = s.rxTxSuspended := rfl
@[simp] theorem cancelTimer_txTimerEnabled : (cancelTimer s).txTimerEnabled = s.txTimerEnabled := rfl
@[simp] theorem cancelTimer_prevEdgeTime : (cancelTimer s).prevEdgeTime = s.prevEdgeTime := rfl
@[simp] theorem cancelTimer_readBits : (cancelTimer s).readBits = s.readBits := rfl
@[simp] theorem cancelTimer_nBits : (cancelTimer s).nBits = s.nBits := rfl
@[simp] theorem cancelTimer_jitter : (cancelTimer s).jitter = s.jitter := rfl
@[simp] theorem cancelTimer_ackArmed : (cancelTimer s).ackArmed = false := rfl
@[simp] theorem cancelTimer_ackDeadline : (cancelTimer s).ackDeadline = s.ackDeadline := rfl
@[simp] theorem cancelTimer_rxSlots : (cancelTimer s).rxSlots = s.rxSlots := rfl
@[simp] theorem cancelTimer_head : (cancelTimer s).head = s.head := rfl
@[simp] theorem cancelTimer_tail : (cancelTimer s).tail = s.tail := rfl
@[simp] theorem cancelTimer_overrun : (cancelTimer s).overrun = s.overrun := rfl
@[simp] theorem cancelTimer_dropEnabled : (cancelTimer s).dropEnabled = s.dropEnabled := rfl
@[simp] theorem cancelTimer_dropThreshold : (cancelTimer s).dropThreshold = s.dropThreshold := rfl
@[simp] theorem cancelTimer_isEssential : (cancelTimer s).isEssential = s.isEssential := rfl
@[simp] theorem cancelTimer_lastBusActivity : (cancelTimer s).lastBusActivity = s.lastBusActivity := rfl
@[simp] theorem cancelTimer_txSlots : (cancelTimer s).txSlots = s.txSlots := rfl
@[simp] theorem cancelTimer_txHead : (cancelTimer s).txHead = s.txHead := rfl
@[simp] theorem cancelTimer_txTail : (cancelTimer s).txTail = s.txTail := rfl
@[simp] theorem cancelTimer_txPinLevel : (cancelTimer s).txPinLevel = s.txPinLevel := rfl
@[simp] theorem cancelTimer_rxStats : (cancelTimer s).rxStats = s.rxStats := rfl
@[simp] theorem cancelTimer_txStats : (cancelTimer s).txStats = s.txStats := rfl
@[simp] theorem cancelTimer_repairStats : (cancelTimer s).repairStats = s.repairStats := rfl

/-! ### moveHead -/

@[simp] theorem moveHead_params : (moveHead s).params = s.params := rfl
@[simp] theorem moveHead_input : (moveHead s).input = s.input := rfl
@[simp] theorem moveHead_result : (moveHead s).result = s.result := rfl
@[simp] theorem moveHead_send : (moveHead s).send = s.send := rfl
@[simp] theorem moveHead_configured : (moveHead s).configured = s.configured := rfl
@[simp] theorem moveHead_q : (moveHead s).q = s.q := rfl
@[simp] theorem moveHead_rxPin : (moveHead s).rxPin = s.rxPin := rfl
@[simp] theorem moveHead_txPin : (moveHead s).txPin = s.txPin := rfl
@[simp] theorem moveHead_rxHostEnabled : (moveHead s).rxHostEnabled = s.rxHostEnabled := rfl
@[simp] theorem moveHead_rxTxSuspended : (moveHead s).rxTxSuspended = s.rxTxSuspended := rfl
@[simp] theorem moveHead_txTimerEnabled : (moveHead s).txTimerEnabled = s.txTimerEnabled := rfl
@[simp] theorem moveHead_prevEdgeTime : (moveHead s).prevEdgeTime = s.prevEdgeTime := rfl
@[simp] theorem moveHead_readBits : (moveHead s).readBits = s.readBits := rfl
@[simp] theorem moveHead_nBits : (moveHead s).nBits = s.nBits := rfl
@[simp] theorem moveHead_jitter : (moveHead s).jitter = s.jitter := rfl
@[simp] theorem moveHead_ackArmed : (moveHead s).ackArmed = s.ackArmed := rfl
@[simp] theorem moveHead_ackDeadline : (moveHead s).ackDeadline = s.ackDeadline := rfl
@[simp] theorem moveHead_rxSlots : (moveHead s).rxSlots = s.rxSlots := rfl
@[simp] theorem moveHead_head : (moveHead s).head = (s.head + 1) % s.q.toNat := rfl
@[simp] theorem moveHead_tail : (moveHead s).tail = s.tail := rfl
@[simp] theorem moveHead_overrun : (moveHead s).overrun = s.overrun := rfl
@[simp] theorem moveHead_dropEnabled : (moveHead s).dropEnabled = s.dropEnabled := rfl
@[simp] theorem moveHead_dropThreshold : (moveHead s).dropThreshold = s.dropThreshold := rfl
@[simp] theorem moveHead_isEssential : (moveHead s).isEssential = s.isEssential := rfl
@[simp] theorem moveHead_lastBusActivity : (moveHead s).lastBusActivity = s.lastBusActivity := rfl
@[simp] theorem moveHead_txSlots : (moveHead s).txSlots = s.txSlots := rfl
@[simp] theorem moveHead_txHead : (moveHead s).txHead = s.txHead := rfl
@[simp] theorem moveHead_txTail : (moveHead s).txTail = s.txTail := rfl
@[simp] theorem moveHead_txPinLevel : (moveHead s).txPinLevel = s.txPinLevel := rfl
@[simp] theorem moveHead_rxStats : (moveHead s).rxStats = s.rxStats := rfl
@[simp] theorem moveHead_txStats : (moveHead s).txStats = s.txStats := rfl
@[simp] theorem moveHead_repairStats : (moveHead s).repairStats = s.repairStats := rfl

/-! ### overwriteHead -/

@[simp] theorem overwriteHead_params : (overwriteHead s).params = s.params := rfl
@[simp] theorem overwriteHead_input : (overwriteHead s).input = s.input := rfl
@[simp] theorem overwriteHead_result : (overwriteHead s).result = s.result := rfl
@[simp] theorem overwriteHead_send : (overwriteHead s).send = s.send := rfl
@[simp] theorem overwriteHead_configured : (overwriteHead s).configured = s.configured := rfl
@[simp] theorem overwriteHead_q : (overwriteHead s).q = s.q := rfl
@[simp] theorem overwriteHead_rxPin : (overwriteHead s).rxPin = s.rxPin := rfl
@[simp] theorem overwriteHead_txPin : (overwriteHead s).txPin = s.txPin := rfl
@[simp] theorem overwriteHead_rxHostEnabled : (overwriteHead s).rxHostEnabled = s.rxHostEnabled := rfl
@[simp] theorem overwriteHead_rxTxSuspended : (overwriteHead s).rxTxSuspended = s.rxTxSuspended := rfl
@[simp] theorem overwriteHead_txTimerEnabled : (overwriteHead s).txTimerEnabled = s.txTimerEnabled := rfl
@[simp] theorem overwriteHead_prevEdgeTime : (overwriteHead s).prevEdgeTime = s.prevEdgeTime := rfl
@[simp] theorem overwriteHead_readBits : (overwriteHead s).readBits = s.readBits := rfl
@[simp] theorem overwriteHead_nBits : (overwriteHead s).nBits = s.nBits := rfl
@[simp] theorem overwriteHead_jitter : (overwriteHead s).jitter = s.jitter := rfl
@[simp] theorem overwriteHead_ackArmed : (overwriteHead s).ackArmed = s.ackArmed := rfl
@[simp] theorem overwriteHead_ackDeadline : (overwriteHead s).ackDeadline = s.ackDeadline := rfl
@[simp] theorem overwriteHead_rxSlots : (overwriteHead s).rxSlots = s.rxSlots.set s.head vacantSlot := rfl
@[simp] theorem overwriteHead_head : (overwriteHead s).head = s.head := rfl
@[simp] theorem overwriteHead_tail : (overwriteHead s).tail = s.tail := rfl
@[simp] theorem overwriteHead_overrun : (overwriteHead s).overrun = true := rfl
@[simp] theorem overwriteHead_dropEnabled : (overwriteHead s).dropEnabled = s.dropEnabled := rfl
@[simp] theorem overwriteHead_dropThreshold : (overwriteHead s).dropThreshold = s.dropThreshold := rfl
@[simp] theorem overwriteHead_isEssential : (overwriteHead s).isEssential = s.isEssential := rfl
@[simp] theorem overwriteHead_lastBusActivity : (overwriteHead s).lastBusActivity = s.lastBusActivity := rfl
@[simp] theorem overwriteHead_txSlots : (overwriteHead s).txSlots = s.txSlots := rfl
@[simp] theorem overwriteHead_txHead : (overwriteHead s).txHead = s.txHead := rfl
@[simp] theorem overwriteHead_txTail : (overwriteHead s).txTail = s.txTail := rfl
@[simp] theorem overwriteHead_txPinLevel : (overwriteHead s).txPinLevel = s.txPinLevel := rfl
@[simp] theorem overwriteHead_rxStats : (overwriteHead s).rxStats = s.noteOverrun.rxStats := rfl
@[simp] theorem overwriteHead_txStats : (overwriteHead s).txStats = s.txStats := rfl
@[simp] theorem overwriteHead_repairStats : (overwriteHead s).repairStats = s.repairStats := rfl

/-! ### dropFrame -/

@[simp] theorem dropFrame_params : (dropFrame s).params = s.params := rfl
@[simp] theorem dropFrame_input : (dropFrame s).input = s.input := rfl
@[simp] theorem dropFrame_result : (dropFrame s).result = s.result := rfl
@[simp] theorem dropFrame_send : (dropFrame s).send = s.send := rfl
@[simp] theorem dropFrame_configured : (dropFrame s).configured = s.configured := rfl
@[simp] theorem dropFrame_q : (dropFrame s).q = s.q := rfl
@[simp] theorem dropFrame_rxPin : (dropFrame s).rxPin = s.rxPin := rfl
@[simp] theorem dropFrame_txPin : (dropFrame s).txPin = s.txPin := rfl
@[simp] theorem dropFrame_rxHostEnabled : (dropFrame s).rxHostEnabled = s.rxHostEnabled := rfl
@[simp] theorem dropFrame_rxTxSuspended : (dropFrame s).rxTxSuspended = s.rxTxSuspended := rfl
@[simp] theorem dropFrame_txTimerEnabled : (dropFrame s).txTimerEnabled = s.txTimerEnabled := rfl
@[simp] theorem dropFrame_prevEdgeTime : (dropFrame s).prevEdgeTime = s.prevEdgeTime := rfl
@[simp] theorem dropFrame_readBits : (dropFrame s).readBits = s.readBits := rfl
@[simp] theorem dropFrame_nBits : (dropFrame s).nBits = s.nBits := rfl
@[simp] theorem dropFrame_jitter : (dropFrame s).jitter = s.jitter := rfl
@[simp] theorem dropFrame_ackArmed : (dropFrame s).ackArmed = s.ackArmed := rfl
@[simp] theorem dropFrame_ackDeadline : (dropFrame s).ackDeadline = s.ackDeadline := rfl
@[simp] theorem dropFrame_rxSlots : (dropFrame s).rxSlots = s.rxSlots.set s.head vacantSlot := rfl
@[simp] theorem dropFrame_head : (dropFrame s).head = s.head := rfl
@[simp] theorem dropFrame_tail : (dropFrame s).tail = s.tail := rfl
@[simp] theorem dropFrame_overrun : (dropFrame s).overrun = s.overrun := rfl
@[simp] theorem dropFrame_dropEnabled : (dropFrame s).dropEnabled = s.dropEnabled := rfl
@[simp] theorem dropFrame_dropThreshold : (dropFrame s).dropThreshold = s.dropThreshold := rfl
@[simp] theorem dropFrame_isEssential : (dropFrame s).isEssential = s.isEssential := rfl
@[simp] theorem dropFrame_lastBusActivity : (dropFrame s).lastBusActivity = s.lastBusActivity := rfl
@[simp] theorem dropFrame_txSlots : (dropFrame s).txSlots = s.txSlots := rfl
@[simp] theorem dropFrame_txHead : (dropFrame s).txHead = s.txHead := rfl
@[simp] theorem dropFrame_txTail : (dropFrame s).txTail = s.txTail := rfl
@[simp] theorem dropFrame_txPinLevel : (dropFrame s).txPinLevel = s.txPinLevel := rfl
@[simp] theorem dropFrame_rxStats : (dropFrame s).rxStats = s.noteDropped.rxStats := rfl
@[simp] theorem dropFrame_txStats : (dropFrame s).txStats = s.txStats := rfl
@[simp] theorem dropFrame_repairStats : (dropFrame s).repairStats = s.repairStats := rfl

/-! ### completedState -/

@[simp] theorem completedState_params (result : RxResult) (ms : Word) (slot : RxSlot) :
    (completedState result ms slot s).params = s.params := by
  simp [completedState]
@[simp] theorem completedState_input (result : RxResult) (ms : Word) (slot : RxSlot) :
    (completedState result ms slot s).input = s.input := by
  simp [completedState]
@[simp] theorem completedState_result (result : RxResult) (ms : Word) (slot : RxSlot) :
    (completedState result ms slot s).result = s.result := by
  simp [completedState]
@[simp] theorem completedState_send (result : RxResult) (ms : Word) (slot : RxSlot) :
    (completedState result ms slot s).send = s.send := by
  simp [completedState]
@[simp] theorem completedState_configured (result : RxResult) (ms : Word) (slot : RxSlot) :
    (completedState result ms slot s).configured = s.configured := by
  simp [completedState]
@[simp] theorem completedState_q (result : RxResult) (ms : Word) (slot : RxSlot) :
    (completedState result ms slot s).q = s.q := by
  simp [completedState]
@[simp] theorem completedState_rxPin (result : RxResult) (ms : Word) (slot : RxSlot) :
    (completedState result ms slot s).rxPin = s.rxPin := by
  simp [completedState]
@[simp] theorem completedState_txPin (result : RxResult) (ms : Word) (slot : RxSlot) :
    (completedState result ms slot s).txPin = s.txPin := by
  simp [completedState]
@[simp] theorem completedState_rxHostEnabled (result : RxResult) (ms : Word) (slot : RxSlot) :
    (completedState result ms slot s).rxHostEnabled = s.rxHostEnabled := by
  simp [completedState]
@[simp] theorem completedState_rxTxSuspended (result : RxResult) (ms : Word) (slot : RxSlot) :
    (completedState result ms slot s).rxTxSuspended = s.rxTxSuspended := by
  simp [completedState]
@[simp] theorem completedState_txTimerEnabled (result : RxResult) (ms : Word) (slot : RxSlot) :
    (completedState result ms slot s).txTimerEnabled = s.txTimerEnabled := by
  simp [completedState]
@[simp] theorem completedState_prevEdgeTime (result : RxResult) (ms : Word) (slot : RxSlot) :
    (completedState result ms slot s).prevEdgeTime = s.prevEdgeTime := by
  simp [completedState]
@[simp] theorem completedState_readBits (result : RxResult) (ms : Word) (slot : RxSlot) :
    (completedState result ms slot s).readBits = 0 := by
  simp [completedState]
@[simp] theorem completedState_nBits (result : RxResult) (ms : Word) (slot : RxSlot) :
    (completedState result ms slot s).nBits = 0 := by
  simp [completedState]
@[simp] theorem completedState_jitter (result : RxResult) (ms : Word) (slot : RxSlot) :
    (completedState result ms slot s).jitter = 0 := by
  simp [completedState]
@[simp] theorem completedState_ackArmed (result : RxResult) (ms : Word) (slot : RxSlot) :
    (completedState result ms slot s).ackArmed = false := by
  simp [completedState]
@[simp] theorem completedState_ackDeadline (result : RxResult) (ms : Word) (slot : RxSlot) :
    (completedState result ms slot s).ackDeadline = s.ackDeadline := by
  simp [completedState]
@[simp] theorem completedState_rxSlots (result : RxResult) (ms : Word) (slot : RxSlot) :
    (completedState result ms slot s).rxSlots = s.rxSlots.set s.head (completedSlot result ms slot s) := by
  simp [completedState]
@[simp] theorem completedState_head (result : RxResult) (ms : Word) (slot : RxSlot) :
    (completedState result ms slot s).head = s.head := by
  simp [completedState]
@[simp] theorem completedState_tail (result : RxResult) (ms : Word) (slot : RxSlot) :
    (completedState result ms slot s).tail = s.tail := by
  simp [completedState]
@[simp] theorem completedState_overrun (result : RxResult) (ms : Word) (slot : RxSlot) :
    (completedState result ms slot s).overrun = s.overrun := by
  simp [completedState]
@[simp] theorem completedState_dropEnabled (result : RxResult) (ms : Word) (slot : RxSlot) :
    (completedState result ms slot s).dropEnabled = s.dropEnabled := by
  simp [completedState]
@[simp] theorem completedState_dropThreshold (result : RxResult) (ms : Word) (slot : RxSlot) :
    (completedState result ms slot s).dropThreshold = s.dropThreshold := by
  simp [completedState]
@[simp] theorem completedState_isEssential (result : RxResult) (ms : Word) (slot : RxSlot) :
    (completedState result ms slot s).isEssential = s.isEssential := by
  simp [completedState]
@[simp] theorem completedState_lastBusActivity (result : RxResult) (ms : Word) (slot : RxSlot) :
    (completedState result ms slot s).lastBusActivity = s.lastBusActivity := by
  simp [completedState]
@[simp] theorem completedState_txSlots (result : RxResult) (ms : Word) (slot : RxSlot) :
    (completedState result ms slot s).txSlots = s.txSlots := by
  simp [completedState]
@[simp] theorem completedState_txHead (result : RxResult) (ms : Word) (slot : RxSlot) :
    (completedState result ms slot s).txHead = s.txHead := by
  simp [completedState]
@[simp] theorem completedState_txTail (result : RxResult) (ms : Word) (slot : RxSlot) :
    (completedState result ms slot s).txTail = s.txTail := by
  simp [completedState]
@[simp] theorem completedState_txPinLevel (result : RxResult) (ms : Word) (slot : RxSlot) :
    (completedState result ms slot s).txPinLevel = s.txPinLevel := by
  simp [completedState]
@[simp] theorem completedState_rxStats (result : RxResult) (ms : Word) (slot : RxSlot) :
    (completedState result ms slot s).rxStats = s.noteCompleted.rxStats := by
  simp [completedState]
@[simp] theorem completedState_txStats (result : RxResult) (ms : Word) (slot : RxSlot) :
    (completedState result ms slot s).txStats = s.txStats := by
  simp [completedState]
@[simp] theorem completedState_repairStats (result : RxResult) (ms : Word) (slot : RxSlot) :
    (completedState result ms slot s).repairStats = s.repairStats := by
  simp [completedState]

/-! ### endSearch -/

@[simp] theorem endSearch_params (slot : RxSlot) : (endSearch slot s).params = s.params := rfl
@[simp] theorem endSearch_input (slot : RxSlot) : (endSearch slot s).input = s.input := rfl
@[simp] theorem endSearch_result (slot : RxSlot) : (endSearch slot s).result = s.result := rfl
@[simp] theorem endSearch_send (slot : RxSlot) : (endSearch slot s).send = s.send := rfl
@[simp] theorem endSearch_configured (slot : RxSlot) : (endSearch slot s).configured = s.configured := rfl
@[simp] theorem endSearch_q (slot : RxSlot) : (endSearch slot s).q = s.q := rfl
@[simp] theorem endSearch_rxPin (slot : RxSlot) : (endSearch slot s).rxPin = s.rxPin := rfl
@[simp] theorem endSearch_txPin (slot : RxSlot) : (endSearch slot s).txPin = s.txPin := rfl
@[simp] theorem endSearch_rxHostEnabled (slot : RxSlot) : (endSearch slot s).rxHostEnabled = s.rxHostEnabled := rfl
@[simp] theorem endSearch_rxTxSuspended (slot : RxSlot) : (endSearch slot s).rxTxSuspended = s.rxTxSuspended := rfl
@[simp] theorem endSearch_txTimerEnabled (slot : RxSlot) : (endSearch slot s).txTimerEnabled = s.txTimerEnabled := rfl
@[simp] theorem endSearch_prevEdgeTime (slot : RxSlot) : (endSearch slot s).prevEdgeTime = s.prevEdgeTime := rfl
@[simp] theorem endSearch_readBits (slot : RxSlot) : (endSearch slot s).readBits = 0 := rfl
@[simp] theorem endSearch_nBits (slot : RxSlot) : (endSearch slot s).nBits = 0 := rfl
@[simp] theorem endSearch_jitter (slot : RxSlot) : (endSearch slot s).jitter = 0 := rfl
@[simp] theorem endSearch_ackArmed (slot : RxSlot) : (endSearch slot s).ackArmed = s.ackArmed := rfl
@[simp] theorem endSearch_ackDeadline (slot : RxSlot) : (endSearch slot s).ackDeadline = s.ackDeadline := rfl
@[simp] theorem endSearch_rxSlots (slot : RxSlot) :
    (endSearch slot s).rxSlots = s.rxSlots.set s.head { slot with state := .vacant } := rfl
@[simp] theorem endSearch_head (slot : RxSlot) : (endSearch slot s).head = s.head := rfl
@[simp] theorem endSearch_tail (slot : RxSlot) : (endSearch slot s).tail = s.tail := rfl
@[simp] theorem endSearch_overrun (slot : RxSlot) : (endSearch slot s).overrun = s.overrun := rfl
@[simp] theorem endSearch_dropEnabled (slot : RxSlot) : (endSearch slot s).dropEnabled = s.dropEnabled := rfl
@[simp] theorem endSearch_dropThreshold (slot : RxSlot) : (endSearch slot s).dropThreshold = s.dropThreshold := rfl
@[simp] theorem endSearch_isEssential (slot : RxSlot) : (endSearch slot s).isEssential = s.isEssential := rfl
@[simp] theorem endSearch_lastBusActivity (slot : RxSlot) :
    (endSearch slot s).lastBusActivity = s.lastBusActivity := rfl
@[simp] theorem endSearch_txSlots (slot : RxSlot) : (endSearch slot s).txSlots = s.txSlots := rfl
@[simp] theorem endSearch_txHead (slot : RxSlot) : (endSearch slot s).txHead = s.txHead := rfl
@[simp] theorem endSearch_txTail (slot : RxSlot) : (endSearch slot s).txTail = s.txTail := rfl
@[simp] theorem endSearch_txPinLevel (slot : RxSlot) : (endSearch slot s).txPinLevel = s.txPinLevel := rfl
@[simp] theorem endSearch_rxStats (slot : RxSlot) : (endSearch slot s).rxStats = s.rxStats := rfl
@[simp] theorem endSearch_txStats (slot : RxSlot) : (endSearch slot s).txStats = s.txStats := rfl
@[simp] theorem endSearch_repairStats (slot : RxSlot) : (endSearch slot s).repairStats = s.repairStats := rfl

/-! ### enterWaitAck -/

@[simp] theorem enterWaitAck_params (now : Word) (slot : RxSlot) : (enterWaitAck now slot s).params = s.params := rfl
@[simp] theorem enterWaitAck_input (now : Word) (slot : RxSlot) : (enterWaitAck now slot s).input = s.input := rfl
@[simp] theorem enterWaitAck_result (now : Word) (slot : RxSlot) : (enterWaitAck now slot s).result = s.result := rfl
@[simp] theorem enterWaitAck_send (now : Word) (slot : RxSlot) : (enterWaitAck now slot s).send = s.send := rfl
@[simp] theorem enterWaitAck_configured (now : Word) (slot : RxSlot) :
    (enterWaitAck now slot s).configured = s.configured := rfl
@[simp] theorem enterWaitAck_q (now : Word) (slot : RxSlot) : (enterWaitAck now slot s).q = s.q := rfl
@[simp] theorem enterWaitAck_rxPin (now : Word) (slot : RxSlot) : (enterWaitAck now slot s).rxPin = s.rxPin := rfl
@[simp] theorem enterWaitAck_txPin (now : Word) (slot : RxSlot) : (enterWaitAck now slot s).txPin = s.txPin := rfl
@[simp] theorem enterWaitAck_rxHostEnabled (now : Word) (slot : RxSlot) :
    (enterWaitAck now slot s).rxHostEnabled = s.rxHostEnabled := rfl
@[simp] theorem enterWaitAck_rxTxSuspended (now : Word) (slot : RxSlot) :
    (enterWaitAck now slot s).rxTxSuspended = s.rxTxSuspended := rfl
@[simp] theorem enterWaitAck_txTimerEnabled (now : Word) (slot : RxSlot) :
    (enterWaitAck now slot s).txTimerEnabled = s.txTimerEnabled := rfl
@[simp] theorem enterWaitAck_prevEdgeTime (now : Word) (slot : RxSlot) :
    (enterWaitAck now slot s).prevEdgeTime = s.prevEdgeTime := rfl
@[simp] theorem enterWaitAck_readBits (now : Word) (slot : RxSlot) :
    (enterWaitAck now slot s).readBits = s.readBits := rfl
@[simp] theorem enterWaitAck_nBits (now : Word) (slot : RxSlot) : (enterWaitAck now slot s).nBits = s.nBits := rfl
@[simp] theorem enterWaitAck_jitter (now : Word) (slot : RxSlot) : (enterWaitAck now slot s).jitter = s.jitter := rfl
@[simp] theorem enterWaitAck_ackArmed (now : Word) (slot : RxSlot) : (enterWaitAck now slot s).ackArmed = true := rfl
@[simp] theorem enterWaitAck_ackDeadline (now : Word) (slot : RxSlot) :
    (enterWaitAck now slot s).ackDeadline = now + BitVec.ofNat 32 s.params.ackTimeout := rfl
@[simp] theorem enterWaitAck_rxSlots (now : Word) (slot : RxSlot) :
    (enterWaitAck now slot s).rxSlots = s.rxSlots.set s.head { slot with state := .waitingAck } := rfl
@[simp] theorem enterWaitAck_head (now : Word) (slot : RxSlot) : (enterWaitAck now slot s).head = s.head := rfl
@[simp] theorem enterWaitAck_tail (now : Word) (slot : RxSlot) : (enterWaitAck now slot s).tail = s.tail := rfl
@[simp] theorem enterWaitAck_overrun (now : Word) (slot : RxSlot) : (enterWaitAck now slot s).overrun = s.overrun := rfl
@[simp] theorem enterWaitAck_dropEnabled (now : Word) (slot : RxSlot) :
    (enterWaitAck now slot s).dropEnabled = s.dropEnabled := rfl
@[simp] theorem enterWaitAck_dropThreshold (now : Word) (slot : RxSlot) :
    (enterWaitAck now slot s).dropThreshold = s.dropThreshold := rfl
@[simp] theorem enterWaitAck_isEssential (now : Word) (slot : RxSlot) :
    (enterWaitAck now slot s).isEssential = s.isEssential := rfl
@[simp] theorem enterWaitAck_lastBusActivity (now : Word) (slot : RxSlot) :
    (enterWaitAck now slot s).lastBusActivity = s.lastBusActivity := rfl
@[simp] theorem enterWaitAck_txSlots (now : Word) (slot : RxSlot) : (enterWaitAck now slot s).txSlots = s.txSlots := rfl
@[simp] theorem enterWaitAck_txHead (now : Word) (slot : RxSlot) : (enterWaitAck now slot s).txHead = s.txHead := rfl
@[simp] theorem enterWaitAck_txTail (now : Word) (slot : RxSlot) : (enterWaitAck now slot s).txTail = s.txTail := rfl
@[simp] theorem enterWaitAck_txPinLevel (now : Word) (slot : RxSlot) :
    (enterWaitAck now slot s).txPinLevel = s.txPinLevel := rfl
@[simp] theorem enterWaitAck_rxStats (now : Word) (slot : RxSlot) : (enterWaitAck now slot s).rxStats = s.rxStats := rfl
@[simp] theorem enterWaitAck_txStats (now : Word) (slot : RxSlot) : (enterWaitAck now slot s).txStats = s.txStats := rfl
@[simp] theorem enterWaitAck_repairStats (now : Word) (slot : RxSlot) :
    (enterWaitAck now slot s).repairStats = s.repairStats := rfl

/-! ### appendRun -/

@[simp] theorem appendRun_params (v : Bit) (n : Nat) (jitter : Int) : (appendRun v n jitter s).params = s.params := rfl
@[simp] theorem appendRun_input (v : Bit) (n : Nat) (jitter : Int) : (appendRun v n jitter s).input = s.input := rfl
@[simp] theorem appendRun_result (v : Bit) (n : Nat) (jitter : Int) : (appendRun v n jitter s).result = s.result := rfl
@[simp] theorem appendRun_send (v : Bit) (n : Nat) (jitter : Int) : (appendRun v n jitter s).send = s.send := rfl
@[simp] theorem appendRun_configured (v : Bit) (n : Nat) (jitter : Int) :
    (appendRun v n jitter s).configured = s.configured := rfl
@[simp] theorem appendRun_q (v : Bit) (n : Nat) (jitter : Int) : (appendRun v n jitter s).q = s.q := rfl
@[simp] theorem appendRun_rxPin (v : Bit) (n : Nat) (jitter : Int) : (appendRun v n jitter s).rxPin = s.rxPin := rfl
@[simp] theorem appendRun_txPin (v : Bit) (n : Nat) (jitter : Int) : (appendRun v n jitter s).txPin = s.txPin := rfl
@[simp] theorem appendRun_rxHostEnabled (v : Bit) (n : Nat) (jitter : Int) :
    (appendRun v n jitter s).rxHostEnabled = s.rxHostEnabled := rfl
@[simp] theorem appendRun_rxTxSuspended (v : Bit) (n : Nat) (jitter : Int) :
    (appendRun v n jitter s).rxTxSuspended = s.rxTxSuspended := rfl
@[simp] theorem appendRun_txTimerEnabled (v : Bit) (n : Nat) (jitter : Int) :
    (appendRun v n jitter s).txTimerEnabled = s.txTimerEnabled := rfl
@[simp] theorem appendRun_prevEdgeTime (v : Bit) (n : Nat) (jitter : Int) :
    (appendRun v n jitter s).prevEdgeTime = s.prevEdgeTime := rfl
@[simp] theorem appendRun_readBits (v : Bit) (n : Nat) (jitter : Int) :
    (appendRun v n jitter s).readBits = (s.readBits <<< n) ||| (if v then BitVec.ofNat 20 (2 ^ n - 1) else 0) := rfl
@[simp] theorem appendRun_nBits (v : Bit) (n : Nat) (jitter : Int) : (appendRun v n jitter s).nBits = s.nBits + n := rfl
@[simp] theorem appendRun_jitter (v : Bit) (n : Nat) (jitter : Int) :
    (appendRun v n jitter s).jitter = BitVec.ofInt 32 jitter := rfl
@[simp] theorem appendRun_ackArmed (v : Bit) (n : Nat) (jitter : Int) :
    (appendRun v n jitter s).ackArmed = s.ackArmed := rfl
@[simp] theorem appendRun_ackDeadline (v : Bit) (n : Nat) (jitter : Int) :
    (appendRun v n jitter s).ackDeadline = s.ackDeadline := rfl
@[simp] theorem appendRun_rxSlots (v : Bit) (n : Nat) (jitter : Int) :
    (appendRun v n jitter s).rxSlots = s.rxSlots := rfl
@[simp] theorem appendRun_head (v : Bit) (n : Nat) (jitter : Int) : (appendRun v n jitter s).head = s.head := rfl
@[simp] theorem appendRun_tail (v : Bit) (n : Nat) (jitter : Int) : (appendRun v n jitter s).tail = s.tail := rfl
@[simp] theorem appendRun_overrun (v : Bit) (n : Nat) (jitter : Int) :
    (appendRun v n jitter s).overrun = s.overrun := rfl
@[simp] theorem appendRun_dropEnabled (v : Bit) (n : Nat) (jitter : Int) :
    (appendRun v n jitter s).dropEnabled = s.dropEnabled := rfl
@[simp] theorem appendRun_dropThreshold (v : Bit) (n : Nat) (jitter : Int) :
    (appendRun v n jitter s).dropThreshold = s.dropThreshold := rfl
@[simp] theorem appendRun_isEssential (v : Bit) (n : Nat) (jitter : Int) :
    (appendRun v n jitter s).isEssential = s.isEssential := rfl
@[simp] theorem appendRun_lastBusActivity (v : Bit) (n : Nat) (jitter : Int) :
    (appendRun v n jitter s).lastBusActivity = s.lastBusActivity := rfl
@[simp] theorem appendRun_txSlots (v : Bit) (n : Nat) (jitter : Int) :
    (appendRun v n jitter s).txSlots = s.txSlots := rfl
@[simp] theorem appendRun_txHead (v : Bit) (n : Nat) (jitter : Int) : (appendRun v n jitter s).txHead = s.txHead := rfl
@[simp] theorem appendRun_txTail (v : Bit) (n : Nat) (jitter : Int) : (appendRun v n jitter s).txTail = s.txTail := rfl
@[simp] theorem appendRun_txPinLevel (v : Bit) (n : Nat) (jitter : Int) :
    (appendRun v n jitter s).txPinLevel = s.txPinLevel := rfl
@[simp] theorem appendRun_rxStats (v : Bit) (n : Nat) (jitter : Int) :
    (appendRun v n jitter s).rxStats = s.rxStats := rfl
@[simp] theorem appendRun_txStats (v : Bit) (n : Nat) (jitter : Int) :
    (appendRun v n jitter s).txStats = s.txStats := rfl
@[simp] theorem appendRun_repairStats (v : Bit) (n : Nat) (jitter : Int) :
    (appendRun v n jitter s).repairStats = s.repairStats := rfl

/-! ### dropGroup -/

@[simp] theorem dropGroup_params : (dropGroup s).params = s.params := rfl
@[simp] theorem dropGroup_input : (dropGroup s).input = s.input := rfl
@[simp] theorem dropGroup_result : (dropGroup s).result = s.result := rfl
@[simp] theorem dropGroup_send : (dropGroup s).send = s.send := rfl
@[simp] theorem dropGroup_configured : (dropGroup s).configured = s.configured := rfl
@[simp] theorem dropGroup_q : (dropGroup s).q = s.q := rfl
@[simp] theorem dropGroup_rxPin : (dropGroup s).rxPin = s.rxPin := rfl
@[simp] theorem dropGroup_txPin : (dropGroup s).txPin = s.txPin := rfl
@[simp] theorem dropGroup_rxHostEnabled : (dropGroup s).rxHostEnabled = s.rxHostEnabled := rfl
@[simp] theorem dropGroup_rxTxSuspended : (dropGroup s).rxTxSuspended = s.rxTxSuspended := rfl
@[simp] theorem dropGroup_txTimerEnabled : (dropGroup s).txTimerEnabled = s.txTimerEnabled := rfl
@[simp] theorem dropGroup_prevEdgeTime : (dropGroup s).prevEdgeTime = s.prevEdgeTime := rfl
@[simp] theorem dropGroup_readBits :
    (dropGroup s).readBits = s.readBits &&& BitVec.ofNat 20 (2 ^ (s.nBits - 10) - 1) := rfl
@[simp] theorem dropGroup_nBits : (dropGroup s).nBits = s.nBits - 10 := rfl
@[simp] theorem dropGroup_jitter : (dropGroup s).jitter = s.jitter := rfl
@[simp] theorem dropGroup_ackArmed : (dropGroup s).ackArmed = s.ackArmed := rfl
@[simp] theorem dropGroup_ackDeadline : (dropGroup s).ackDeadline = s.ackDeadline := rfl
@[simp] theorem dropGroup_rxSlots : (dropGroup s).rxSlots = s.rxSlots := rfl
@[simp] theorem dropGroup_head : (dropGroup s).head = s.head := rfl
@[simp] theorem dropGroup_tail : (dropGroup s).tail = s.tail := rfl
@[simp] theorem dropGroup_overrun : (dropGroup s).overrun = s.overrun := rfl
@[simp] theorem dropGroup_dropEnabled : (dropGroup s).dropEnabled = s.dropEnabled := rfl
@[simp] theorem dropGroup_dropThreshold : (dropGroup s).dropThreshold = s.dropThreshold := rfl
@[simp] theorem dropGroup_isEssential : (dropGroup s).isEssential = s.isEssential := rfl
@[simp] theorem dropGroup_lastBusActivity : (dropGroup s).lastBusActivity = s.lastBusActivity := rfl
@[simp] theorem dropGroup_txSlots : (dropGroup s).txSlots = s.txSlots := rfl
@[simp] theorem dropGroup_txHead : (dropGroup s).txHead = s.txHead := rfl
@[simp] theorem dropGroup_txTail : (dropGroup s).txTail = s.txTail := rfl
@[simp] theorem dropGroup_txPinLevel : (dropGroup s).txPinLevel = s.txPinLevel := rfl
@[simp] theorem dropGroup_rxStats : (dropGroup s).rxStats = s.rxStats := rfl
@[simp] theorem dropGroup_txStats : (dropGroup s).txStats = s.txStats := rfl
@[simp] theorem dropGroup_repairStats : (dropGroup s).repairStats = s.repairStats := rfl

/-! ### edgePrologue -/

@[simp] theorem edgePrologue_params (level : Bit) (now : Word) : (edgePrologue level now s).params = s.params := rfl
@[simp] theorem edgePrologue_input (level : Bit) (now : Word) : (edgePrologue level now s).input = s.input := rfl
@[simp] theorem edgePrologue_result (level : Bit) (now : Word) : (edgePrologue level now s).result = s.result := rfl
@[simp] theorem edgePrologue_send (level : Bit) (now : Word) : (edgePrologue level now s).send = s.send := rfl
@[simp] theorem edgePrologue_configured (level : Bit) (now : Word) :
    (edgePrologue level now s).configured = s.configured := rfl
@[simp] theorem edgePrologue_q (level : Bit) (now : Word) : (edgePrologue level now s).q = s.q := rfl
@[simp] theorem edgePrologue_rxPin (level : Bit) (now : Word) : (edgePrologue level now s).rxPin = s.rxPin := rfl
@[simp] theorem edgePrologue_txPin (level : Bit) (now : Word) : (edgePrologue level now s).txPin = s.txPin := rfl
@[simp] theorem edgePrologue_rxHostEnabled (level : Bit) (now : Word) :
    (edgePrologue level now s).rxHostEnabled = s.rxHostEnabled := rfl
@[simp] theorem edgePrologue_rxTxSuspended (level : Bit) (now : Word) :
    (edgePrologue level now s).rxTxSuspended = s.rxTxSuspended := rfl
@[simp] theorem edgePrologue_txTimerEnabled (level : Bit) (now : Word) :
    (edgePrologue level now s).txTimerEnabled = s.txTimerEnabled := rfl
@[simp] theorem edgePrologue_prevEdgeTime (level : Bit) (now : Word) :
    (edgePrologue level now s).prevEdgeTime = now := rfl
@[simp] theorem edgePrologue_readBits (level : Bit) (now : Word) :
    (edgePrologue level now s).readBits = s.readBits := rfl
@[simp] theorem edgePrologue_nBits (level : Bit) (now : Word) : (edgePrologue level now s).nBits = s.nBits := rfl
@[simp] theorem edgePrologue_jitter (level : Bit) (now : Word) : (edgePrologue level now s).jitter = s.jitter := rfl
@[simp] theorem edgePrologue_ackArmed (level : Bit) (now : Word) :
    (edgePrologue level now s).ackArmed = s.ackArmed := rfl
@[simp] theorem edgePrologue_ackDeadline (level : Bit) (now : Word) :
    (edgePrologue level now s).ackDeadline = s.ackDeadline := rfl
@[simp] theorem edgePrologue_rxSlots (level : Bit) (now : Word) : (edgePrologue level now s).rxSlots = s.rxSlots := rfl
@[simp] theorem edgePrologue_head (level : Bit) (now : Word) : (edgePrologue level now s).head = s.head := rfl
@[simp] theorem edgePrologue_tail (level : Bit) (now : Word) : (edgePrologue level now s).tail = s.tail := rfl
@[simp] theorem edgePrologue_overrun (level : Bit) (now : Word) : (edgePrologue level now s).overrun = s.overrun := rfl
@[simp] theorem edgePrologue_dropEnabled (level : Bit) (now : Word) :
    (edgePrologue level now s).dropEnabled = s.dropEnabled := rfl
@[simp] theorem edgePrologue_dropThreshold (level : Bit) (now : Word) :
    (edgePrologue level now s).dropThreshold = s.dropThreshold := rfl
@[simp] theorem edgePrologue_isEssential (level : Bit) (now : Word) :
    (edgePrologue level now s).isEssential = s.isEssential := rfl
@[simp] theorem edgePrologue_lastBusActivity (level : Bit) (now : Word) :
    (edgePrologue level now s).lastBusActivity = if level then now else s.lastBusActivity := rfl
@[simp] theorem edgePrologue_txSlots (level : Bit) (now : Word) : (edgePrologue level now s).txSlots = s.txSlots := rfl
@[simp] theorem edgePrologue_txHead (level : Bit) (now : Word) : (edgePrologue level now s).txHead = s.txHead := rfl
@[simp] theorem edgePrologue_txTail (level : Bit) (now : Word) : (edgePrologue level now s).txTail = s.txTail := rfl
@[simp] theorem edgePrologue_txPinLevel (level : Bit) (now : Word) :
    (edgePrologue level now s).txPinLevel = s.txPinLevel := rfl
@[simp] theorem edgePrologue_rxStats (level : Bit) (now : Word) : (edgePrologue level now s).rxStats = s.rxStats := rfl
@[simp] theorem edgePrologue_txStats (level : Bit) (now : Word) : (edgePrologue level now s).txStats = s.txStats := rfl
@[simp] theorem edgePrologue_repairStats (level : Bit) (now : Word) :
    (edgePrologue level now s).repairStats = s.repairStats := rfl

/-! ### takeFrame -/

@[simp] theorem takeFrame_params : (takeFrame s).params = s.params := rfl
@[simp] theorem takeFrame_input : (takeFrame s).input = s.input := rfl
@[simp] theorem takeFrame_result : (takeFrame s).result = s.result := rfl
@[simp] theorem takeFrame_send : (takeFrame s).send = s.send := rfl
@[simp] theorem takeFrame_configured : (takeFrame s).configured = s.configured := rfl
@[simp] theorem takeFrame_q : (takeFrame s).q = s.q := rfl
@[simp] theorem takeFrame_rxPin : (takeFrame s).rxPin = s.rxPin := rfl
@[simp] theorem takeFrame_txPin : (takeFrame s).txPin = s.txPin := rfl
@[simp] theorem takeFrame_rxHostEnabled : (takeFrame s).rxHostEnabled = s.rxHostEnabled := rfl
@[simp] theorem takeFrame_rxTxSuspended : (takeFrame s).rxTxSuspended = s.rxTxSuspended := rfl
@[simp] theorem takeFrame_txTimerEnabled : (takeFrame s).txTimerEnabled = s.txTimerEnabled := rfl
@[simp] theorem takeFrame_prevEdgeTime : (takeFrame s).prevEdgeTime = s.prevEdgeTime := rfl
@[simp] theorem takeFrame_readBits : (takeFrame s).readBits = s.readBits := rfl
@[simp] theorem takeFrame_nBits : (takeFrame s).nBits = s.nBits := rfl
@[simp] theorem takeFrame_jitter : (takeFrame s).jitter = s.jitter := rfl
@[simp] theorem takeFrame_ackArmed : (takeFrame s).ackArmed = s.ackArmed := rfl
@[simp] theorem takeFrame_ackDeadline : (takeFrame s).ackDeadline = s.ackDeadline := rfl
@[simp] theorem takeFrame_rxSlots : (takeFrame s).rxSlots = s.rxSlots.set s.tail vacantSlot := rfl
@[simp] theorem takeFrame_head : (takeFrame s).head = s.head := rfl
@[simp] theorem takeFrame_tail : (takeFrame s).tail = (s.tail + 1) % s.q.toNat := rfl
@[simp] theorem takeFrame_overrun : (takeFrame s).overrun = false := rfl
@[simp] theorem takeFrame_dropEnabled : (takeFrame s).dropEnabled = s.dropEnabled := rfl
@[simp] theorem takeFrame_dropThreshold : (takeFrame s).dropThreshold = s.dropThreshold := rfl
@[simp] theorem takeFrame_isEssential : (takeFrame s).isEssential = s.isEssential := rfl
@[simp] theorem takeFrame_lastBusActivity : (takeFrame s).lastBusActivity = s.lastBusActivity := rfl
@[simp] theorem takeFrame_txSlots : (takeFrame s).txSlots = s.txSlots := rfl
@[simp] theorem takeFrame_txHead : (takeFrame s).txHead = s.txHead := rfl
@[simp] theorem takeFrame_txTail : (takeFrame s).txTail = s.txTail := rfl
@[simp] theorem takeFrame_txPinLevel : (takeFrame s).txPinLevel = s.txPinLevel := rfl
@[simp] theorem takeFrame_rxStats : (takeFrame s).rxStats = s.rxStats := rfl
@[simp] theorem takeFrame_txStats : (takeFrame s).txStats = s.txStats := rfl
@[simp] theorem takeFrame_repairStats : (takeFrame s).repairStats = s.repairStats := rfl

/-! ### queueFrame -/

@[simp] theorem queueFrame_params (iden : BitVec 12) (flags : BitVec 4) (data : List Byte) (len : Byte) :
    (queueFrame iden flags data len s).params = s.params := rfl
@[simp] theorem queueFrame_input (iden : BitVec 12) (flags : BitVec 4) (data : List Byte) (len : Byte) :
    (queueFrame iden flags data len s).input = s.input := rfl
@[simp] theorem queueFrame_result (iden : BitVec 12) (flags : BitVec 4) (data : List Byte) (len : Byte) :
    (queueFrame iden flags data len s).result = s.result := rfl
@[simp] theorem queueFrame_send (iden : BitVec 12) (flags : BitVec 4) (data : List Byte) (len : Byte) :
    (queueFrame iden flags data len s).send = s.send := rfl
@[simp] theorem queueFrame_configured (iden : BitVec 12) (flags : BitVec 4) (data : List Byte) (len : Byte) :
    (queueFrame iden flags data len s).configured = s.configured := rfl
@[simp] theorem queueFrame_q (iden : BitVec 12) (flags : BitVec 4) (data : List Byte) (len : Byte) :
    (queueFrame iden flags data len s).q = s.q := rfl
@[simp] theorem queueFrame_rxPin (iden : BitVec 12) (flags : BitVec 4) (data : List Byte) (len : Byte) :
    (queueFrame iden flags data len s).rxPin = s.rxPin := rfl
@[simp] theorem queueFrame_txPin (iden : BitVec 12) (flags : BitVec 4) (data : List Byte) (len : Byte) :
    (queueFrame iden flags data len s).txPin = s.txPin := rfl
@[simp] theorem queueFrame_rxHostEnabled (iden : BitVec 12) (flags : BitVec 4) (data : List Byte) (len : Byte) :
    (queueFrame iden flags data len s).rxHostEnabled = s.rxHostEnabled := rfl
@[simp] theorem queueFrame_rxTxSuspended (iden : BitVec 12) (flags : BitVec 4) (data : List Byte) (len : Byte) :
    (queueFrame iden flags data len s).rxTxSuspended = s.rxTxSuspended := rfl
@[simp] theorem queueFrame_txTimerEnabled (iden : BitVec 12) (flags : BitVec 4) (data : List Byte) (len : Byte) :
    (queueFrame iden flags data len s).txTimerEnabled = true := rfl
@[simp] theorem queueFrame_prevEdgeTime (iden : BitVec 12) (flags : BitVec 4) (data : List Byte) (len : Byte) :
    (queueFrame iden flags data len s).prevEdgeTime = s.prevEdgeTime := rfl
@[simp] theorem queueFrame_readBits (iden : BitVec 12) (flags : BitVec 4) (data : List Byte) (len : Byte) :
    (queueFrame iden flags data len s).readBits = s.readBits := rfl
@[simp] theorem queueFrame_nBits (iden : BitVec 12) (flags : BitVec 4) (data : List Byte) (len : Byte) :
    (queueFrame iden flags data len s).nBits = s.nBits := rfl
@[simp] theorem queueFrame_jitter (iden : BitVec 12) (flags : BitVec 4) (data : List Byte) (len : Byte) :
    (queueFrame iden flags data len s).jitter = s.jitter := rfl
@[simp] theorem queueFrame_ackArmed (iden : BitVec 12) (flags : BitVec 4) (data : List Byte) (len : Byte) :
    (queueFrame iden flags data len s).ackArmed = s.ackArmed := rfl
@[simp] theorem queueFrame_ackDeadline (iden : BitVec 12) (flags : BitVec 4) (data : List Byte) (len : Byte) :
    (queueFrame iden flags data len s).ackDeadline = s.ackDeadline := rfl
@[simp] theorem queueFrame_rxSlots (iden : BitVec 12) (flags : BitVec 4) (data : List Byte) (len : Byte) :
    (queueFrame iden flags data len s).rxSlots = s.rxSlots := rfl
@[simp] theorem queueFrame_head (iden : BitVec 12) (flags : BitVec 4) (data : List Byte) (len : Byte) :
    (queueFrame iden flags data len s).head = s.head := rfl
@[simp] theorem queueFrame_tail (iden : BitVec 12) (flags : BitVec 4) (data : List Byte) (len : Byte) :
    (queueFrame iden flags data len s).tail = s.tail := rfl
@[simp] theorem queueFrame_overrun (iden : BitVec 12) (flags : BitVec 4) (data : List Byte) (len : Byte) :
    (queueFrame iden flags data len s).overrun = s.overrun := rfl
@[simp] theorem queueFrame_dropEnabled (iden : BitVec 12) (flags : BitVec 4) (data : List Byte) (len : Byte) :
    (queueFrame iden flags data len s).dropEnabled = s.dropEnabled := rfl
@[simp] theorem queueFrame_dropThreshold (iden : BitVec 12) (flags : BitVec 4) (data : List Byte) (len : Byte) :
    (queueFrame iden flags data len s).dropThreshold = s.dropThreshold := rfl
@[simp] theorem queueFrame_isEssential (iden : BitVec 12) (flags : BitVec 4) (data : List Byte) (len : Byte) :
    (queueFrame iden flags data len s).isEssential = s.isEssential := rfl
@[simp] theorem queueFrame_lastBusActivity (iden : BitVec 12) (flags : BitVec 4) (data : List Byte) (len : Byte) :
    (queueFrame iden flags data len s).lastBusActivity = s.lastBusActivity := rfl
@[simp] theorem queueFrame_txSlots (iden : BitVec 12) (flags : BitVec 4) (data : List Byte) (len : Byte) :
    (queueFrame iden flags data len s).txSlots =
      s.txSlots.set s.txHead (queuedSlot (buildFrame iden flags data len) len) := rfl
@[simp] theorem queueFrame_txHead (iden : BitVec 12) (flags : BitVec 4) (data : List Byte) (len : Byte) :
    (queueFrame iden flags data len s).txHead = (s.txHead + 1) % s.params.txQ := rfl
@[simp] theorem queueFrame_txTail (iden : BitVec 12) (flags : BitVec 4) (data : List Byte) (len : Byte) :
    (queueFrame iden flags data len s).txTail = s.txTail := rfl
@[simp] theorem queueFrame_txPinLevel (iden : BitVec 12) (flags : BitVec 4) (data : List Byte) (len : Byte) :
    (queueFrame iden flags data len s).txPinLevel = s.txPinLevel := rfl
@[simp] theorem queueFrame_rxStats (iden : BitVec 12) (flags : BitVec 4) (data : List Byte) (len : Byte) :
    (queueFrame iden flags data len s).rxStats = s.rxStats := rfl
@[simp] theorem queueFrame_txStats (iden : BitVec 12) (flags : BitVec 4) (data : List Byte) (len : Byte) :
    (queueFrame iden flags data len s).txStats = s.txStats := rfl
@[simp] theorem queueFrame_repairStats (iden : BitVec 12) (flags : BitVec 4) (data : List Byte) (len : Byte) :
    (queueFrame iden flags data len s).repairStats = s.repairStats := rfl

/-! ### startFrame -/

@[simp] theorem startFrame_params (t : TxSlot) : (startFrame t s).params = s.params := rfl
@[simp] theorem startFrame_input (t : TxSlot) : (startFrame t s).input = s.input := rfl
@[simp] theorem startFrame_result (t : TxSlot) : (startFrame t s).result = s.result := rfl
@[simp] theorem startFrame_send (t : TxSlot) : (startFrame t s).send = s.send := rfl
@[simp] theorem startFrame_configured (t : TxSlot) : (startFrame t s).configured = s.configured := rfl
@[simp] theorem startFrame_q (t : TxSlot) : (startFrame t s).q = s.q := rfl
@[simp] theorem startFrame_rxPin (t : TxSlot) : (startFrame t s).rxPin = s.rxPin := rfl
@[simp] theorem startFrame_txPin (t : TxSlot) : (startFrame t s).txPin = s.txPin := rfl
@[simp] theorem startFrame_rxHostEnabled (t : TxSlot) : (startFrame t s).rxHostEnabled = s.rxHostEnabled := rfl
@[simp] theorem startFrame_rxTxSuspended (t : TxSlot) : (startFrame t s).rxTxSuspended = true := rfl
@[simp] theorem startFrame_txTimerEnabled (t : TxSlot) : (startFrame t s).txTimerEnabled = s.txTimerEnabled := rfl
@[simp] theorem startFrame_prevEdgeTime (t : TxSlot) : (startFrame t s).prevEdgeTime = s.prevEdgeTime := rfl
@[simp] theorem startFrame_readBits (t : TxSlot) : (startFrame t s).readBits = s.readBits := rfl
@[simp] theorem startFrame_nBits (t : TxSlot) : (startFrame t s).nBits = s.nBits := rfl
@[simp] theorem startFrame_jitter (t : TxSlot) : (startFrame t s).jitter = s.jitter := rfl
@[simp] theorem startFrame_ackArmed (t : TxSlot) : (startFrame t s).ackArmed = s.ackArmed := rfl
@[simp] theorem startFrame_ackDeadline (t : TxSlot) : (startFrame t s).ackDeadline = s.ackDeadline := rfl
@[simp] theorem startFrame_rxSlots (t : TxSlot) : (startFrame t s).rxSlots = s.rxSlots := rfl
@[simp] theorem startFrame_head (t : TxSlot) : (startFrame t s).head = s.head := rfl
@[simp] theorem startFrame_tail (t : TxSlot) : (startFrame t s).tail = s.tail := rfl
@[simp] theorem startFrame_overrun (t : TxSlot) : (startFrame t s).overrun = s.overrun := rfl
@[simp] theorem startFrame_dropEnabled (t : TxSlot) : (startFrame t s).dropEnabled = s.dropEnabled := rfl
@[simp] theorem startFrame_dropThreshold (t : TxSlot) : (startFrame t s).dropThreshold = s.dropThreshold := rfl
@[simp] theorem startFrame_isEssential (t : TxSlot) : (startFrame t s).isEssential = s.isEssential := rfl
@[simp] theorem startFrame_lastBusActivity (t : TxSlot) : (startFrame t s).lastBusActivity = s.lastBusActivity := rfl
@[simp] theorem startFrame_txSlots (t : TxSlot) :
    (startFrame t s).txSlots = s.txSlots.set s.txTail { t with state := .sending, bitIndex := 1 } := rfl
@[simp] theorem startFrame_txHead (t : TxSlot) : (startFrame t s).txHead = s.txHead := rfl
@[simp] theorem startFrame_txTail (t : TxSlot) : (startFrame t s).txTail = s.txTail := rfl
@[simp] theorem startFrame_txPinLevel (t : TxSlot) : (startFrame t s).txPinLevel = t.txBits.getD 0 false := rfl
@[simp] theorem startFrame_rxStats (t : TxSlot) : (startFrame t s).rxStats = s.rxStats := rfl
@[simp] theorem startFrame_txStats (t : TxSlot) : (startFrame t s).txStats = s.txStats := rfl
@[simp] theorem startFrame_repairStats (t : TxSlot) : (startFrame t s).repairStats = s.repairStats := rfl

/-! ### deferFrame -/

@[simp] theorem deferFrame_params (t : TxSlot) : (deferFrame t s).params = s.params := rfl
@[simp] theorem deferFrame_input (t : TxSlot) : (deferFrame t s).input = s.input := rfl
@[simp] theorem deferFrame_result (t : TxSlot) : (deferFrame t s).result = s.result := rfl
@[simp] theorem deferFrame_send (t : TxSlot) : (deferFrame t s).send = s.send := rfl
@[simp] theorem deferFrame_configured (t : TxSlot) : (deferFrame t s).configured = s.configured := rfl
@[simp] theorem deferFrame_q (t : TxSlot) : (deferFrame t s).q = s.q := rfl
@[simp] theorem deferFrame_rxPin (t : TxSlot) : (deferFrame t s).rxPin = s.rxPin := rfl
@[simp] theorem deferFrame_txPin (t : TxSlot) : (deferFrame t s).txPin = s.txPin := rfl
@[simp] theorem deferFrame_rxHostEnabled (t : TxSlot) : (deferFrame t s).rxHostEnabled = s.rxHostEnabled := rfl
@[simp] theorem deferFrame_rxTxSuspended (t : TxSlot) : (deferFrame t s).rxTxSuspended = s.rxTxSuspended := rfl
@[simp] theorem deferFrame_txTimerEnabled (t : TxSlot) : (deferFrame t s).txTimerEnabled = s.txTimerEnabled := rfl
@[simp] theorem deferFrame_prevEdgeTime (t : TxSlot) : (deferFrame t s).prevEdgeTime = s.prevEdgeTime := rfl
@[simp] theorem deferFrame_readBits (t : TxSlot) : (deferFrame t s).readBits = s.readBits := rfl
@[simp] theorem deferFrame_nBits (t : TxSlot) : (deferFrame t s).nBits = s.nBits := rfl
@[simp] theorem deferFrame_jitter (t : TxSlot) : (deferFrame t s).jitter = s.jitter := rfl
@[simp] theorem deferFrame_ackArmed (t : TxSlot) : (deferFrame t s).ackArmed = s.ackArmed := rfl
@[simp] theorem deferFrame_ackDeadline (t : TxSlot) : (deferFrame t s).ackDeadline = s.ackDeadline := rfl
@[simp] theorem deferFrame_rxSlots (t : TxSlot) : (deferFrame t s).rxSlots = s.rxSlots := rfl
@[simp] theorem deferFrame_head (t : TxSlot) : (deferFrame t s).head = s.head := rfl
@[simp] theorem deferFrame_tail (t : TxSlot) : (deferFrame t s).tail = s.tail := rfl
@[simp] theorem deferFrame_overrun (t : TxSlot) : (deferFrame t s).overrun = s.overrun := rfl
@[simp] theorem deferFrame_dropEnabled (t : TxSlot) : (deferFrame t s).dropEnabled = s.dropEnabled := rfl
@[simp] theorem deferFrame_dropThreshold (t : TxSlot) : (deferFrame t s).dropThreshold = s.dropThreshold := rfl
@[simp] theorem deferFrame_isEssential (t : TxSlot) : (deferFrame t s).isEssential = s.isEssential := rfl
@[simp] theorem deferFrame_lastBusActivity (t : TxSlot) : (deferFrame t s).lastBusActivity = s.lastBusActivity := rfl
@[simp] theorem deferFrame_txSlots (t : TxSlot) :
    (deferFrame t s).txSlots = s.txSlots.set s.txTail t.noteDeferred := rfl
@[simp] theorem deferFrame_txHead (t : TxSlot) : (deferFrame t s).txHead = s.txHead := rfl
@[simp] theorem deferFrame_txTail (t : TxSlot) : (deferFrame t s).txTail = s.txTail := rfl
@[simp] theorem deferFrame_txPinLevel (t : TxSlot) : (deferFrame t s).txPinLevel = s.txPinLevel := rfl
@[simp] theorem deferFrame_rxStats (t : TxSlot) : (deferFrame t s).rxStats = s.rxStats := rfl
@[simp] theorem deferFrame_txStats (t : TxSlot) : (deferFrame t s).txStats = s.noteBusOccupied.txStats := rfl
@[simp] theorem deferFrame_repairStats (t : TxSlot) : (deferFrame t s).repairStats = s.repairStats := rfl

/-! ### collide -/

@[simp] theorem collide_params (t : TxSlot) (k : Nat) (now : Word) : (collide t k now s).params = s.params := rfl
@[simp] theorem collide_input (t : TxSlot) (k : Nat) (now : Word) : (collide t k now s).input = s.input := rfl
@[simp] theorem collide_result (t : TxSlot) (k : Nat) (now : Word) : (collide t k now s).result = s.result := rfl
@[simp] theorem collide_send (t : TxSlot) (k : Nat) (now : Word) : (collide t k now s).send = s.send := rfl
@[simp] theorem collide_configured (t : TxSlot) (k : Nat) (now : Word) :
    (collide t k now s).configured = s.configured := rfl
@[simp] theorem collide_q (t : TxSlot) (k : Nat) (now : Word) : (collide t k now s).q = s.q := rfl
@[simp] theorem collide_rxPin (t : TxSlot) (k : Nat) (now : Word) : (collide t k now s).rxPin = s.rxPin := rfl
@[simp] theorem collide_txPin (t : TxSlot) (k : Nat) (now : Word) : (collide t k now s).txPin = s.txPin := rfl
@[simp] theorem collide_rxHostEnabled (t : TxSlot) (k : Nat) (now : Word) :
    (collide t k now s).rxHostEnabled = s.rxHostEnabled := rfl
@[simp] theorem collide_rxTxSuspended (t : TxSlot) (k : Nat) (now : Word) :
    (collide t k now s).rxTxSuspended = false := rfl
@[simp] theorem collide_txTimerEnabled (t : TxSlot) (k : Nat) (now : Word) :
    (collide t k now s).txTimerEnabled = s.txTimerEnabled := rfl
@[simp] theorem collide_prevEdgeTime (t : TxSlot) (k : Nat) (now : Word) :
    (collide t k now s).prevEdgeTime = s.prevEdgeTime := rfl
@[simp] theorem collide_readBits (t : TxSlot) (k : Nat) (now : Word) : (collide t k now s).readBits = s.readBits := rfl
@[simp] theorem collide_nBits (t : TxSlot) (k : Nat) (now : Word) : (collide t k now s).nBits = s.nBits := rfl
@[simp] theorem collide_jitter (t : TxSlot) (k : Nat) (now : Word) : (collide t k now s).jitter = s.jitter := rfl
@[simp] theorem collide_ackArmed (t : TxSlot) (k : Nat) (now : Word) : (collide t k now s).ackArmed = s.ackArmed := rfl
@[simp] theorem collide_ackDeadline (t : TxSlot) (k : Nat) (now : Word) :
    (collide t k now s).ackDeadline = s.ackDeadline := rfl
@[simp] theorem collide_rxSlots (t : TxSlot) (k : Nat) (now : Word) : (collide t k now s).rxSlots = s.rxSlots := rfl
@[simp] theorem collide_head (t : TxSlot) (k : Nat) (now : Word) : (collide t k now s).head = s.head := rfl
@[simp] theorem collide_tail (t : TxSlot) (k : Nat) (now : Word) : (collide t k now s).tail = s.tail := rfl
@[simp] theorem collide_overrun (t : TxSlot) (k : Nat) (now : Word) : (collide t k now s).overrun = s.overrun := rfl
@[simp] theorem collide_dropEnabled (t : TxSlot) (k : Nat) (now : Word) :
    (collide t k now s).dropEnabled = s.dropEnabled := rfl
@[simp] theorem collide_dropThreshold (t : TxSlot) (k : Nat) (now : Word) :
    (collide t k now s).dropThreshold = s.dropThreshold := rfl
@[simp] theorem collide_isEssential (t : TxSlot) (k : Nat) (now : Word) :
    (collide t k now s).isEssential = s.isEssential := rfl
@[simp] theorem collide_lastBusActivity (t : TxSlot) (k : Nat) (now : Word) :
    (collide t k now s).lastBusActivity = now := rfl
@[simp] theorem collide_txSlots (t : TxSlot) (k : Nat) (now : Word) :
    (collide t k now s).txSlots =
      s.txSlots.set s.txTail { t.noteCollision k with state := .waiting, bitIndex := 0 } := rfl
@[simp] theorem collide_txHead (t : TxSlot) (k : Nat) (now : Word) : (collide t k now s).txHead = s.txHead := rfl
@[simp] theorem collide_txTail (t : TxSlot) (k : Nat) (now : Word) : (collide t k now s).txTail = s.txTail := rfl
@[simp] theorem collide_txPinLevel (t : TxSlot) (k : Nat) (now : Word) : (collide t k now s).txPinLevel = true := rfl
@[simp] theorem collide_rxStats (t : TxSlot) (k : Nat) (now : Word) : (collide t k now s).rxStats = s.rxStats := rfl
@[simp] theorem collide_txStats (t : TxSlot) (k : Nat) (now : Word) : (collide t k now s).txStats = s.txStats := rfl
@[simp] theorem collide_repairStats (t : TxSlot) (k : Nat) (now : Word) :
    (collide t k now s).repairStats = s.repairStats := rfl

/-! ### nextBit -/

@[simp] theorem nextBit_params (t : TxSlot) : (nextBit t s).params = s.params := rfl
@[simp] theorem nextBit_input (t : TxSlot) : (nextBit t s).input = s.input := rfl
@[simp] theorem nextBit_result (t : TxSlot) : (nextBit t s).result = s.result := rfl
@[simp] theorem nextBit_send (t : TxSlot) : (nextBit t s).send = s.send := rfl
@[simp] theorem nextBit_configured (t : TxSlot) : (nextBit t s).configured = s.configured := rfl
@[simp] theorem nextBit_q (t : TxSlot) : (nextBit t s).q = s.q := rfl
@[simp] theorem nextBit_rxPin (t : TxSlot) : (nextBit t s).rxPin = s.rxPin := rfl
@[simp] theorem nextBit_txPin (t : TxSlot) : (nextBit t s).txPin = s.txPin := rfl
@[simp] theorem nextBit_rxHostEnabled (t : TxSlot) : (nextBit t s).rxHostEnabled = s.rxHostEnabled := rfl
@[simp] theorem nextBit_rxTxSuspended (t : TxSlot) : (nextBit t s).rxTxSuspended = s.rxTxSuspended := rfl
@[simp] theorem nextBit_txTimerEnabled (t : TxSlot) : (nextBit t s).txTimerEnabled = s.txTimerEnabled := rfl
@[simp] theorem nextBit_prevEdgeTime (t : TxSlot) : (nextBit t s).prevEdgeTime = s.prevEdgeTime := rfl
@[simp] theorem nextBit_readBits (t : TxSlot) : (nextBit t s).readBits = s.readBits := rfl
@[simp] theorem nextBit_nBits (t : TxSlot) : (nextBit t s).nBits = s.nBits := rfl
@[simp] theorem nextBit_jitter (t : TxSlot) : (nextBit t s).jitter = s.jitter := rfl
@[simp] theorem nextBit_ackArmed (t : TxSlot) : (nextBit t s).ackArmed = s.ackArmed := rfl
@[simp] theorem nextBit_ackDeadline (t : TxSlot) : (nextBit t s).ackDeadline = s.ackDeadline := rfl
@[simp] theorem nextBit_rxSlots (t : TxSlot) : (nextBit t s).rxSlots = s.rxSlots := rfl
@[simp] theorem nextBit_head (t : TxSlot) : (nextBit t s).head = s.head := rfl
@[simp] theorem nextBit_tail (t : TxSlot) : (nextBit t s).tail = s.tail := rfl
@[simp] theorem nextBit_overrun (t : TxSlot) : (nextBit t s).overrun = s.overrun := rfl
@[simp] theorem nextBit_dropEnabled (t : TxSlot) : (nextBit t s).dropEnabled = s.dropEnabled := rfl
@[simp] theorem nextBit_dropThreshold (t : TxSlot) : (nextBit t s).dropThreshold = s.dropThreshold := rfl
@[simp] theorem nextBit_isEssential (t : TxSlot) : (nextBit t s).isEssential = s.isEssential := rfl
@[simp] theorem nextBit_lastBusActivity (t : TxSlot) : (nextBit t s).lastBusActivity = s.lastBusActivity := rfl
@[simp] theorem nextBit_txSlots (t : TxSlot) :
    (nextBit t s).txSlots = s.txSlots.set s.txTail { t with bitIndex := t.bitIndex + 1 } := rfl
@[simp] theorem nextBit_txHead (t : TxSlot) : (nextBit t s).txHead = s.txHead := rfl
@[simp] theorem nextBit_txTail (t : TxSlot) : (nextBit t s).txTail = s.txTail := rfl
@[simp] theorem nextBit_txPinLevel (t : TxSlot) : (nextBit t s).txPinLevel = t.txBits.getD t.bitIndex false := rfl
@[simp] theorem nextBit_rxStats (t : TxSlot) : (nextBit t s).rxStats = s.rxStats := rfl
@[simp] theorem nextBit_txStats (t : TxSlot) : (nextBit t s).txStats = s.txStats := rfl
@[simp] theorem nextBit_repairStats (t : TxSlot) : (nextBit t s).repairStats = s.repairStats := rfl

/-! ### sentState -/

@[simp] theorem sentState_params (t : TxSlot) (now : Word) : (sentState t now s).params = s.params := rfl
@[simp] theorem sentState_input (t : TxSlot) (now : Word) : (sentState t now s).input = s.input := rfl
@[simp] theorem sentState_result (t : TxSlot) (now : Word) : (sentState t now s).result = s.result := rfl
@[simp] theorem sentState_send (t : TxSlot) (now : Word) : (sentState t now s).send = s.send := rfl
@[simp] theorem sentState_configured (t : TxSlot) (now : Word) : (sentState t now s).configured = s.configured := rfl
@[simp] theorem sentState_q (t : TxSlot) (now : Word) : (sentState t now s).q = s.q := rfl
@[simp] theorem sentState_rxPin (t : TxSlot) (now : Word) : (sentState t now s).rxPin = s.rxPin := rfl
@[simp] theorem sentState_txPin (t : TxSlot) (now : Word) : (sentState t now s).txPin = s.txPin := rfl
@[simp] theorem sentState_rxHostEnabled (t : TxSlot) (now : Word) :
    (sentState t now s).rxHostEnabled = s.rxHostEnabled := rfl
@[simp] theorem sentState_rxTxSuspended (t : TxSlot) (now : Word) : (sentState t now s).rxTxSuspended = false := rfl
@[simp] theorem sentState_txTimerEnabled (t : TxSlot) (now : Word) :
    (sentState t now s).txTimerEnabled = s.txTimerEnabled := rfl
@[simp] theorem sentState_prevEdgeTime (t : TxSlot) (now : Word) :
    (sentState t now s).prevEdgeTime = s.prevEdgeTime := rfl
@[simp] theorem sentState_readBits (t : TxSlot) (now : Word) : (sentState t now s).readBits = s.readBits := rfl
@[simp] theorem sentState_nBits (t : TxSlot) (now : Word) : (sentState t now s).nBits = s.nBits := rfl
@[simp] theorem sentState_jitter (t : TxSlot) (now : Word) : (sentState t now s).jitter = s.jitter := rfl
@[simp] theorem sentState_ackArmed (t : TxSlot) (now : Word) : (sentState t now s).ackArmed = s.ackArmed := rfl
@[simp] theorem sentState_ackDeadline (t : TxSlot) (now : Word) : (sentState t now s).ackDeadline = s.ackDeadline := rfl
@[simp] theorem sentState_rxSlots (t : TxSlot) (now : Word) : (sentState t now s).rxSlots = s.rxSlots := rfl
@[simp] theorem sentState_head (t : TxSlot) (now : Word) : (sentState t now s).head = s.head := rfl
@[simp] theorem sentState_tail (t : TxSlot) (now : Word) : (sentState t now s).tail = s.tail := rfl
@[simp] theorem sentState_overrun (t : TxSlot) (now : Word) : (sentState t now s).overrun = s.overrun := rfl
@[simp] theorem sentState_dropEnabled (t : TxSlot) (now : Word) : (sentState t now s).dropEnabled = s.dropEnabled := rfl
@[simp] theorem sentState_dropThreshold (t : TxSlot) (now : Word) :
    (sentState t now s).dropThreshold = s.dropThreshold := rfl
@[simp] theorem sentState_isEssential (t : TxSlot) (now : Word) : (sentState t now s).isEssential = s.isEssential := rfl
@[simp] theorem sentState_lastBusActivity (t : TxSlot) (now : Word) : (sentState t now s).lastBusActivity = now := rfl
@[simp] theorem sentState_txSlots (t : TxSlot) (now : Word) :
    (sentState t now s).txSlots = s.txSlots.set s.txTail { t with state := .done } := rfl
@[simp] theorem sentState_txHead (t : TxSlot) (now : Word) : (sentState t now s).txHead = s.txHead := rfl
@[simp] theorem sentState_txTail (t : TxSlot) (now : Word) : (sentState t now s).txTail = s.txTail := rfl
@[simp] theorem sentState_txPinLevel (t : TxSlot) (now : Word) : (sentState t now s).txPinLevel = true := rfl
@[simp] theorem sentState_rxStats (t : TxSlot) (now : Word) : (sentState t now s).rxStats = s.rxStats := rfl
@[simp] theorem sentState_txStats (t : TxSlot) (now : Word) :
    (sentState t now s).txStats = (s.noteSent t.collisions).txStats := rfl
@[simp] theorem sentState_repairStats (t : TxSlot) (now : Word) : (sentState t now s).repairStats = s.repairStats := rfl

end Sys2Proof.Machine
end

