-- ==== Sys2Proof/Laws/Step.lean ====
section
/-! SUPPORT. The step: everything it can do when it answers a next state. A statement about every step is proved from
these and one lemma per operation. -/

namespace Sys2Proof.Machine

/-- One instant lies at or after another (00_scope.md R15). -/
theorem atOrAfter_iff (a b : Word) : atOrAfter a b = true ↔ (b - a).toNat < 2 ^ 31 := decide_eq_true_iff

/-- The ACK timer has run out (60_exceptions.md R362, R364). -/
theorem ackDue_iff (s : State) (now : Word) :
    ackDue s now = true ↔ s.ackArmed = true ∧ (now - s.ackDeadline).toNat < 2 ^ 31 := by
  rw [ackDue, Bool.and_eq_true, atOrAfter_iff]

/-- A pass of a blocking send comes before an event (45_tx.md R303; log entry 9). -/
theorem passFirst_iff (h : Send) (ms : Word) (placed : Nat) (timerDue : Bool) :
    passFirst h ms placed timerDue = true ↔ (ms - h.nextPollMs).toNat < 2 ^ 31 ∧
      (ms ≠ h.nextPollMs ∨ Config.passBeforeEvent ms (decide (h.sendPhase = .waitDone)) placed timerDue = true) := by
  rw [passFirst, Bool.and_eq_true, atOrAfter_iff, Bool.or_eq_true, decide_eq_true_iff]

/-- What the ACK timer's expiry leaves alone, and that the timer is off after it (42_rx_decoder.md R194). -/
theorem ackTimeoutHandler_frame {ts : Stamp} {s s' : State} (h : ackTimeoutHandler ts s = .next s') :
    s'.ackArmed = false ∧ s'.input = s.input ∧ s'.send = s.send := by
  unfold ackTimeoutHandler at h
  dsimp only at h
  split at h
  · cases h
  · split at h
    · rcases complete_next h with ⟨-, rfl⟩ | ⟨-, h⟩
      · simp
      · obtain ⟨slot, -, rfl⟩ := advanceHead_next h
        unfold clearHead
        split <;> simp
    · cases h; simp

/-- The host's pass (45_tx.md R303, R304). -/
theorem hostPoll_next {s s' : State} (h : hostPoll s = .next s') :
    (s.send = none ∧ s' = s) ∨ (∃ p, s.send = some p ∧ sendPass p p.nextPollMs s = .next s') := by
  unfold hostPoll at h
  split at h
  · exact .inl ⟨by assumption, by cases h; rfl⟩
  · rename_i p hp; exact .inr ⟨p, hp, h⟩

/-- The step, once the record at the front of the input is known (60_exceptions.md R364, R365). -/
theorem step_of_decode {s : State} {i : Instr} {rest : List Byte} (h : decode s.input = .ok (i, rest)) :
    step s = if hostFirst i s then hostPoll s
      else if timeoutFirst i s then dueTimeout i.stamp.ms s else exec i { s with input := rest } := by
  unfold step performNext
  split
  · rename_i hi; rw [hi] at h; cases h
  · rename_i b bs hi
    rw [hi] at h
    simp only [h]

/-- An ACK timer that is off comes before no record. -/
theorem timeoutFirst_of_disarmed {i : Instr} {s : State} (h : s.ackArmed = false) : timeoutFirst i s = false := by
  cases i <;> simp [timeoutFirst, ackDue, h]

/-- Every next state of a step: the host's pass, a due timeout, or a record performed. -/
theorem step_next {s s' : State} (h : step s = .next s') :
    hostPoll s = .next s' ∨
    (∃ i rest, decode s.input = .ok (i, rest) ∧ hostFirst i s = false ∧
      ((timeoutFirst i s = true ∧ dueTimeout i.stamp.ms s = .next s') ∨
       (timeoutFirst i s = false ∧ exec i { s with input := rest } = .next s'))) := by
  cases hd : decode s.input with
  | ok v =>
    obtain ⟨i, rest⟩ := v
    rw [step_of_decode hd] at h
    cases hf : hostFirst i s <;> cases ht : timeoutFirst i s <;> simp [hf, ht] at h
    · exact .inr ⟨i, rest, rfl, hf, .inr ⟨ht, h⟩⟩
    · exact .inr ⟨i, rest, rfl, hf, .inl ⟨ht, h⟩⟩
    · exact .inl h
    · exact .inl h
  | error e =>
    unfold step performNext at h
    split at h
    · exact .inl h
    · rename_i b bs hi
      rw [hi] at hd
      simp [hd] at h

end Sys2Proof.Machine
end

