-- ==== Sys2Proof/Tests/Slice0.lean ====
section
/-! SUPPORT. Tests of the model: the checks of WellFormed.lean, one written record for every operation, small
one-step tests whose expected values are those of spec/95_test_vectors.md, and for every statement with hypotheses a
witness that meets them. -/

namespace Sys2Proof.Tests

-- One proof after another: each is small, and together they take less memory so.
set_option Elab.async false

open Sys2Proof Sys2Proof.Machine Sys2Proof.Config

/-- The instant 0. -/
def zero : Stamp := ⟨0, 0⟩

/-! ### Well-formedness (30_encoding.md R116) -/

theorem test_wellFormed_bytes_33 : (Instr.preparePacket 0 0 (List.replicate 33 0) 0 zero).wellFormed = true := by decide

theorem test_wellFormed_bytes_34 : (Instr.preparePacket 0 0 (List.replicate 34 0) 0 zero).wellFormed = false := by decide

theorem test_wellFormed_sends :
    (Instr.sendPacket 0 0 (List.replicate 34 0) 0 0 zero).wellFormed = false ∧
    (Instr.syncSendPacket 0 0 (List.replicate 34 0) 0 0 zero).wellFormed = false ∧
    (Instr.txEnqueue 0 0 (List.replicate 34 0) 0 zero).wellFormed = false := by decide

theorem test_wellFormed_uncertain :
    (Instr.crc ⟨[], some 263⟩ zero).wellFormed = true ∧ (Instr.crc ⟨[], some 264⟩ zero).wellFormed = false := by decide

/-- Every operation with a frame operand refuses the 34-byte frame. -/
theorem test_wellFormed_frames :
    let f : Frame := ⟨List.replicate 34 0, none⟩
    [Instr.crc f zero, .checkCrc f zero, .repair f none zero, .frameIden f zero, .frameFlags f zero,
      .frameDataLen f zero, .frameData f 0 zero, .stuffFrame f zero].all (fun i => !i.wellFormed) = true := by decide

/-! ### Records, written out byte by byte (30_encoding.md R115 to R117; log entry 1) -/

theorem test_decode_setup :
    decode [0x01, 0x04, 0, 0, 0, 0x05, 0, 0, 0, 0x08, 0, 0, 0, 0x88, 0x13, 0, 0, 0x02, 0, 0, 0] =
      .ok (.setup 4 5 8 ⟨5000, 2⟩, []) := by rfl

theorem test_decode_enable : decode [0x02, 1, 0, 0, 0, 2, 0, 0, 0] = .ok (.enable ⟨1, 2⟩, []) := by rfl

theorem test_decode_disable : decode [0x03, 1, 0, 0, 0, 2, 0, 0, 0] = .ok (.disable ⟨1, 2⟩, []) := by rfl

theorem test_decode_available : decode [0x04, 0, 1, 0, 0, 0, 2, 0, 0] = .ok (.available ⟨256, 512⟩, []) := by rfl

theorem test_decode_receive : decode [0x05, 0, 0, 1, 0, 0, 0, 0, 1] = .ok (.receive ⟨65536, 16777216⟩, []) := by rfl

theorem test_decode_setDropPolicy :
    decode [0x06, 1, 0, 0, 0, 2, 0xA4, 0x08, 0, 0, 0, 0, 0, 0, 0, 0] =
      .ok (.setDropPolicy 1 (.idenEq 0x8A4) zero, []) := by rfl

theorem test_decode_setDropPolicy_others :
    decode [0x06, 0, 0, 0, 0, 0, 0, 0, 0, 0, 0, 0, 0, 0] = .ok (.setDropPolicy 0 .never zero, []) ∧
    decode [0x06, 0, 0, 0, 0, 1, 0, 0, 0, 0, 0, 0, 0, 0] = .ok (.setDropPolicy 0 .always zero, []) ∧
    decode [0x06, 0, 0, 0, 0, 3, 7, 0, 0, 0, 0, 0, 0, 0, 0, 0, 0, 0] = .ok (.setDropPolicy 0 (.caller 7) zero, []) :=
  ⟨rfl, rfl, rfl⟩

theorem test_decode_sendPacket :
    decode [0x07, 0xA4, 0x08, 0x0C, 2, 0x11, 0x22, 1, 0x64, 0, 0, 0, 3, 0, 0, 0, 4, 0, 0, 0] =
      .ok (.sendPacket 0x8A4 0xC [0x11, 0x22] 1 100 ⟨3, 4⟩, []) := by rfl

theorem test_decode_syncSendPacket :
    decode [0x08, 0x23, 0x01, 0x0F, 0, 0, 0x05, 0, 0, 0, 3, 0, 0, 0, 4, 0, 0, 0] =
      .ok (.syncSendPacket 0x123 0xF [] 0 5 ⟨3, 4⟩, []) := by rfl

theorem test_decode_getCount : decode [0x09, 1, 0, 0, 0, 2, 0, 0, 0] = .ok (.getCount ⟨1, 2⟩, []) := by rfl

theorem test_decode_queueSize : decode [0x0A, 1, 0, 0, 0, 2, 0, 0, 0] = .ok (.queueSize ⟨1, 2⟩, []) := by rfl

theorem test_decode_getNQueued : decode [0x0B, 1, 0, 0, 0, 2, 0, 0, 0] = .ok (.getNQueued ⟨1, 2⟩, []) := by rfl

theorem test_decode_getMaxQueued : decode [0x0C, 1, 0, 0, 0, 2, 0, 0, 0] = .ok (.getMaxQueued ⟨1, 2⟩, []) := by rfl

theorem test_decode_dumpStats : decode [0x0D, 1, 0, 0, 0, 2, 0, 0, 0, 0x55] = .ok (.dumpStats ⟨1, 2⟩, [0x55]) := by rfl

theorem test_decode_crc : decode [0x10, 2, 0x0E, 0x8A, 0, 1, 0, 0, 0, 2, 0, 0, 0] =
    .ok (.crc ⟨[0x0E, 0x8A], none⟩ ⟨1, 2⟩, []) := by rfl

theorem test_decode_checkCrc : decode [0x11, 1, 0x0E, 1, 0x07, 0x01, 1, 0, 0, 0, 2, 0, 0, 0] =
    .ok (.checkCrc ⟨[0x0E], some 263⟩ ⟨1, 2⟩, []) := by rfl

theorem test_decode_repair : decode [0x12, 1, 0x0E, 0, 0, 1, 0, 0, 0, 2, 0, 0, 0] =
    .ok (.repair ⟨[0x0E], none⟩ none ⟨1, 2⟩, []) := by rfl

theorem test_decode_repair_interest :
    decode [0x12, 0, 1, 0x1B, 0, 3, 0x23, 0x01, 0, 0, 0, 0, 0, 0, 0, 0] =
      .ok (.repair ⟨[], some 27⟩ (some (.idenEq 0x123)) zero, []) ∧
    decode [0x12, 0, 0, 2, 0, 0, 0, 0, 0, 0, 0, 0] = .ok (.repair ⟨[], none⟩ (some .always) zero, []) := ⟨rfl, rfl⟩

theorem test_decode_frameIden : decode [0x13, 1, 0x0E, 0, 1, 0, 0, 0, 2, 0, 0, 0] =
    .ok (.frameIden ⟨[0x0E], none⟩ ⟨1, 2⟩, []) := by rfl

theorem test_decode_frameFlags : decode [0x14, 1, 0x0E, 0, 1, 0, 0, 0, 2, 0, 0, 0] =
    .ok (.frameFlags ⟨[0x0E], none⟩ ⟨1, 2⟩, []) := by rfl

theorem test_decode_frameDataLen : decode [0x15, 1, 0x0E, 0, 1, 0, 0, 0, 2, 0, 0, 0] =
    .ok (.frameDataLen ⟨[0x0E], none⟩ ⟨1, 2⟩, []) := by rfl

theorem test_decode_frameData : decode [0x16, 1, 0x0E, 0, 0xFF, 1, 0, 0, 0, 2, 0, 0, 0] =
    .ok (.frameData ⟨[0x0E], none⟩ 255 ⟨1, 2⟩, []) := by rfl

theorem test_decode_manchEncode : decode [0x20, 0x0E, 1, 0, 0, 0, 2, 0, 0, 0] = .ok (.manchEncode 0x0E ⟨1, 2⟩, []) := by rfl

theorem test_decode_manchDecode : decode [0x21, 0x3D, 0x02, 1, 0, 0, 0, 2, 0, 0, 0] =
    .ok (.manchDecode 0x23D ⟨1, 2⟩, []) := by rfl

theorem test_decode_eodTest : decode [0x22, 0xFF, 0x03, 1, 0, 0, 0, 2, 0, 0, 0] = .ok (.eodTest 0x3FF ⟨1, 2⟩, []) := by rfl

theorem test_decode_sofMatch : decode [0x23, 0x3D, 0, 1, 0, 0, 0, 2, 0, 0, 0] = .ok (.sofMatch 0x03D ⟨1, 2⟩, []) := by rfl

theorem test_decode_bitTimeDecode :
    decode [0x24, 0x80, 0x02, 0, 0, 0xC0, 0xFE, 0xFF, 0xFF, 1, 0, 0, 0, 2, 0, 0, 0] =
      .ok (.bitTimeDecode 640 (BitVec.ofInt 32 (-320)) ⟨1, 2⟩, []) := by rfl

theorem test_decode_preparePacket :
    decode [0x25, 0xFF, 0x0F, 0x0F, 1, 0xAB, 1, 1, 0, 0, 0, 2, 0, 0, 0] =
      .ok (.preparePacket 0xFFF 0xF [0xAB] 1 ⟨1, 2⟩, []) := by rfl

theorem test_decode_txEnqueue :
    decode [0x26, 0xA4, 0x08, 0x08, 1, 0x00, 1, 1, 0, 0, 0, 2, 0, 0, 0] =
      .ok (.txEnqueue 0x8A4 8 [0x00] 1 ⟨1, 2⟩, []) := by rfl

theorem test_decode_stuffFrame : decode [0x27, 1, 0x0E, 0, 1, 0, 0, 0, 2, 0, 0, 0] =
    .ok (.stuffFrame ⟨[0x0E], none⟩ ⟨1, 2⟩, []) := by rfl

theorem test_decode_evEdge : decode [0x80, 1, 0x20, 0x93, 0x01, 0, 1, 0, 0, 0] =
    .ok (.evEdge true ⟨103200, 1⟩, []) := by rfl

theorem test_decode_evAckTimeout : decode [0x81, 0x60, 0x2F, 0x02, 0, 1, 0, 0, 0] =
    .ok (.evAckTimeout ⟨143200, 1⟩, []) := by rfl

theorem test_decode_evTxTick : decode [0x82, 0, 0x10, 0x27, 0, 0, 0, 0, 0, 0] = .ok (.evTxTick false ⟨10000, 0⟩, []) := by rfl

/-- Unassigned codes at both ends of each range of R118. -/
theorem test_decode_unassigned :
    ([0x00, 0x0E, 0x0F, 0x17, 0x1F, 0x28, 0x7F, 0x83, 0xFF] : List Byte).all
      (fun op => decide (decode [op] = .error (.unassigned op))) = true := by decide

theorem test_decode_truncated :
    decode [] = .error .noRecord ∧ decode [0x02, 1, 0, 0, 0, 2, 0, 0] = .error .truncated ∧
      decode [0x10, 2, 0x0E] = .error .truncated := ⟨rfl, rfl, rfl⟩

theorem test_decode_operandRange :
    decode [0x80, 2] = .error .operandRange ∧ decode [0x21, 0, 4] = .error .operandRange ∧
      decode [0x26, 0, 16] = .error .operandRange ∧ decode [0x26, 0, 15, 16] = .error .operandRange ∧
      decode [0x10, 34] = .error .operandRange ∧ decode [0x10, 0, 1, 8, 1] = .error .operandRange ∧
      decode [0x06, 0, 0, 0, 0, 4] = .error .operandRange ∧ decode [0x12, 0, 0, 5] = .error .operandRange :=
  ⟨rfl, rfl, rfl, rfl, rfl, rfl, rfl, rfl⟩

/-- The opcode table's words: eight bits, every operand zero. -/
theorem test_table_commands :
    decodeTableWord 8 0x01 = some (.setup 0 0 0 zero) ∧ decodeTableWord 8 0x02 = some (.enable zero) ∧
    decodeTableWord 8 0x03 = some (.disable zero) ∧ decodeTableWord 8 0x04 = some (.available zero) ∧
    decodeTableWord 8 0x05 = some (.receive zero) ∧ decodeTableWord 8 0x06 = some (.setDropPolicy 0 .never zero) ∧
    decodeTableWord 8 0x07 = some (.sendPacket 0 0 [] 0 0 zero) ∧
    decodeTableWord 8 0x08 = some (.syncSendPacket 0 0 [] 0 0 zero) ∧ decodeTableWord 8 0x09 = some (.getCount zero) ∧
    decodeTableWord 8 0x0A = some (.queueSize zero) ∧ decodeTableWord 8 0x0B = some (.getNQueued zero) ∧
    decodeTableWord 8 0x0C = some (.getMaxQueued zero) ∧ decodeTableWord 8 0x0D = some (.dumpStats zero) ∧
    decodeTableWord 8 0x0E = none :=
  ⟨rfl, rfl, rfl, rfl, rfl, rfl, rfl, rfl, rfl, rfl, rfl, rfl, rfl, rfl⟩

theorem test_table_codecs_events :
    decodeTableWord 8 0x10 = some (.crc ⟨[], none⟩ zero) ∧ decodeTableWord 8 0x11 = some (.checkCrc ⟨[], none⟩ zero) ∧
    decodeTableWord 8 0x12 = some (.repair ⟨[], none⟩ none zero) ∧
    decodeTableWord 8 0x13 = some (.frameIden ⟨[], none⟩ zero) ∧
    decodeTableWord 8 0x14 = some (.frameFlags ⟨[], none⟩ zero) ∧
    decodeTableWord 8 0x15 = some (.frameDataLen ⟨[], none⟩ zero) ∧
    decodeTableWord 8 0x16 = some (.frameData ⟨[], none⟩ 0 zero) ∧ decodeTableWord 8 0x20 = some (.manchEncode 0 zero) ∧
    decodeTableWord 8 0x21 = some (.manchDecode 0 zero) ∧ decodeTableWord 8 0x22 = some (.eodTest 0 zero) ∧
    decodeTableWord 8 0x23 = some (.sofMatch 0 zero) ∧ decodeTableWord 8 0x24 = some (.bitTimeDecode 0 0 zero) ∧
    decodeTableWord 8 0x25 = some (.preparePacket 0 0 [] 0 zero) ∧
    decodeTableWord 8 0x26 = some (.txEnqueue 0 0 [] 0 zero) ∧ decodeTableWord 8 0x27 = some (.stuffFrame ⟨[], none⟩ zero) ∧
    decodeTableWord 8 0x80 = some (.evEdge false zero) ∧ decodeTableWord 8 0x81 = some (.evAckTimeout zero) ∧
    decodeTableWord 8 0x82 = some (.evTxTick false zero) :=
  ⟨rfl, rfl, rfl, rfl, rfl, rfl, rfl, rfl, rfl, rfl, rfl, rfl, rfl, rfl, rfl, rfl, rfl, rfl⟩

/-! ### One step each (spec/95_test_vectors.md) -/

/-- The state an outcome ends in; the power-on state where it stops. -/
def endOf (o : Out) : State :=
  match o with
  | .next s => s
  | _ => State.reset

/-- What an operation answers; nothing where it stops. -/
def answerOf (i : Instr) (s : State) : Option Result :=
  match exec i s with
  | .next s => some s.result
  | _ => Option.none

/-- The block after `@5000 SETUP 4, 4, 4` (V18). -/
def fresh : State := endOf (exec (.setup 4 4 4 ⟨5000, 0⟩) State.reset)

/-- "The §8 frame". -/
def f8 : List Byte := [0x0E, 0x8A, 0x48, 0x00, 0xFC, 0x1C]

/-- The raw bits of a number, the first transmitted highest. -/
def rawBits (n v : Nat) : List Bit := (List.range n).map fun k => v.testBit (n - 1 - k)

/-- `s8`, the stream of the §8 frame, as its seven written groups. -/
def s8 : List Bit :=
  [0b0000111101, 0b1000110101, 0b0100110001, 0b0000100001, 0b1111011001, 0b0001011000, 0b1111111111].flatMap (rawBits 10)

/-- V18: SETUP takes effect at its instant; a second one is refused. -/
theorem test_setup : fresh.q = 4 ∧ fresh.prevEdgeTime = 5000 ∧ fresh.lastBusActivity = 5000 ∧ fresh.rxSlots.length = 4 ∧
    fresh.result = .u1 true := by decide +kernel

theorem test_setup_refused : answerOf (.setup 4 4 1 zero) State.reset = some (.u1 false) ∧
    (endOf (exec (.setup 4 4 8 zero) fresh)).q = 4 := by decide +kernel

/-- V18: DISABLE detaches the edge, ENABLE attaches it. -/
theorem test_disable : (endOf (exec (.evEdge false ⟨200000, 0⟩) (endOf (exec (.disable zero) fresh)))).prevEdgeTime = 5000 := by
  decide +kernel

theorem test_enable :
    let s := endOf (exec (.evEdge false ⟨210000, 0⟩) (endOf (exec (.enable zero) (endOf (exec (.disable zero) fresh)))))
    s.prevEdgeTime = 210000 ∧ s.rxSlots[0]? = some { vacantSlot with state := .searching } := by decide +kernel

theorem test_available : answerOf (.available zero) fresh = some (.u1 false) ∧
    answerOf (.available zero) State.reset = some (.u1 false) := by decide +kernel

theorem test_receive_empty : answerOf (.receive zero) fresh = some (.received false emptyRecord false) ∧
    (endOf (exec (.receive zero) fresh)).tail = 0 := by decide +kernel

/-- A DONE slot that holds the §8 frame, as in P1. -/
def doneSlot : RxSlot :=
  { vacantSlot with state := .done, bytes := bufferOf f8, size := 6, ack := .ack, timestamp := 1 }

/-- The block with an unread frame in slot 0. -/
def unread : State := { fresh with rxSlots := fresh.rxSlots.set 0 doneSlot, head := 1, overrun := true }

/-- P1: RECEIVE hands out the frame, clears `overrun` and advances `tail`. -/
theorem test_receive :
    answerOf (.receive zero) unread =
      some (.received true { bytes := f8, size := 6, result := .ok, ack := .ack, seqNo := 0, timestamp := 1, uncertain := none } true) ∧
    (endOf (exec (.receive zero) unread)).tail = 1 ∧ (endOf (exec (.receive zero) unread)).overrun = false := by decide +kernel

theorem test_setDropPolicy :
    let s := endOf (exec (.setDropPolicy 1 (.idenEq 0x8A4) zero) fresh)
    s.dropEnabled = true ∧ s.dropThreshold = 1 ∧ s.isEssential = .idenEq 0x8A4 := by decide +kernel

theorem test_getters : answerOf (.queueSize zero) fresh = some (.u32 4) ∧ answerOf (.queueSize zero) State.reset = some (.u32 0) ∧
    answerOf (.getNQueued zero) unread = some (.u32 1) ∧
    answerOf (.getCount zero) { fresh with rxStats := ⟨4, 1, 2, 3⟩ } = some (.u32 4) ∧
    answerOf (.getMaxQueued zero) { fresh with rxStats := ⟨4, 1, 2, 3⟩ } = some (.u32 3) := by decide +kernel

theorem test_dumpStats :
    answerOf (.dumpStats zero) { unread with rxStats := ⟨1, 2, 3, 4⟩, txStats := ⟨5, 6, 7, 8, 9, 10⟩, repairStats := ⟨11, 12, 13, 14, 15, 16⟩ } =
      some (.stats ⟨1, 2, 3, 4, 1, 10, 5, 6, 7, 8, 9, 11, 12, 13, 14, 15, 16⟩) := by decide +kernel

/-- V9. -/
theorem test_crc : answerOf (.crc ⟨f8, none⟩ zero) fresh = some (.u16 0xFC1C) ∧
    answerOf (.crc ⟨[0x0E, 0x52, 0x4C, 1, 2, 3, 0, 0], none⟩ zero) fresh = some (.u16 0x55DE) ∧
    answerOf (.crc ⟨[1, 2, 3], none⟩ zero) fresh = some (.u16 0) := by decide +kernel

/-- V10. -/
theorem test_checkCrc : answerOf (.checkCrc ⟨f8, none⟩ zero) fresh = some (.u1 true) ∧
    answerOf (.checkCrc ⟨[0x0E, 0x8A, 0x48, 0x00, 0xFC, 0x1D], none⟩ zero) fresh = some (.u1 false) ∧
    answerOf (.checkCrc ⟨[0x0E, 0x8A, 0x48, 0x00, 0x73, 0x81], none⟩ zero) fresh = some (.u1 true) := by decide +kernel

/-- V13: a single flip found by the sweep, counted. -/
theorem test_repair_one :
    answerOf (.repair ⟨[0x0E, 0x8A, 0x48, 0x02, 0xFC, 0x1C], none⟩ none zero) fresh = some (.repaired true ⟨f8, none⟩) ∧
    (endOf (exec (.repair ⟨[0x0E, 0x8A, 0x48, 0x02, 0xFC, 0x1C], none⟩ none zero) fresh)).repairStats = ⟨1, 1, 1, 0, 0, 0⟩ := by
  decide +kernel

/-- V13: the uncertain bit first; not counted where the predicate is false. -/
theorem test_repair_uncertain :
    (endOf (exec (.repair ⟨[0x0E, 0x8A, 0x48, 0x20, 0xFC, 0x1C], some 26⟩ none zero) fresh)).repairStats = ⟨1, 1, 0, 0, 0, 1⟩ ∧
    (endOf (exec (.repair ⟨[0x0E, 0x8A, 0x48, 0x02, 0xFC, 0x1C], none⟩ (some (.idenEq 0x123)) zero) fresh)).repairStats =
      ⟨0, 0, 0, 0, 0, 0⟩ := by decide +kernel

/-- V8. -/
theorem test_frame_accessors :
    answerOf (.frameIden ⟨f8, none⟩ zero) fresh = some (.u12 0x8A4) ∧
    answerOf (.frameIden ⟨[0x0E, 0x8A], none⟩ zero) fresh = some (.u12 0x8A0) ∧
    answerOf (.frameFlags ⟨f8, none⟩ zero) fresh = some (.u4 0x8) ∧
    answerOf (.frameFlags ⟨[0x0E, 0x12, 0x37], none⟩ zero) fresh = some (.u4 0x7) ∧
    answerOf (.frameDataLen ⟨f8, none⟩ zero) fresh = some (.u8 1) ∧
    answerOf (.frameDataLen ⟨[0x0E, 0x8A], none⟩ zero) fresh = some (.u8 0) ∧
    answerOf (.frameData ⟨[0x0E, 0x52, 0x4C, 1, 2, 3, 0x55, 0xDE], none⟩ 2 zero) fresh = some (.u8 3) ∧
    answerOf (.frameData ⟨[0x0E, 0x52, 0x4C, 1, 2, 3, 0x55, 0xDE], none⟩ 3 zero) fresh = some (.u8 0) := by decide +kernel

/-- V5. -/
theorem test_groups : answerOf (.manchEncode 0x8A zero) fresh = some (.u10 0x235) ∧
    answerOf (.manchEncode 0x0F zero) fresh = some (.u10 0x03E) ∧
    answerOf (.manchDecode 0x2AA zero) fresh = some (.u8 0xA5) ∧
    answerOf (.manchDecode 0x23F zero) fresh = some (.u8 0x8F) := by decide +kernel

/-- V6. -/
theorem test_patterns : answerOf (.eodTest 0x058 zero) fresh = some (.u1 true) ∧
    answerOf (.eodTest 0x059 zero) fresh = some (.u1 false) ∧
    answerOf (.sofMatch 0x03C zero) fresh = some (.u1 true) ∧ answerOf (.sofMatch 0x23D zero) fresh = some (.u1 true) ∧
    answerOf (.sofMatch 0x03E zero) fresh = some (.u1 false) := by decide +kernel

/-- V4. -/
theorem test_bitTimeDecode :
    answerOf (.bitTimeDecode 319 0 zero) fresh = some (.bitTime 0 (BitVec.ofInt 32 (-319))) ∧
    answerOf (.bitTimeDecode 320 0 zero) fresh = some (.bitTime 1 0) ∧
    answerOf (.bitTimeDecode 1920 319 zero) fresh = some (.bitTime 3 0) ∧
    answerOf (.bitTimeDecode 6719 0 zero) fresh = some (.bitTime 10 319) := by decide +kernel

theorem test_bitTimeDecode_fallback :
    answerOf (.bitTimeDecode 6720 0 zero) fresh = some (.bitTime 11 0) ∧
    answerOf (.bitTimeDecode 1000 (BitVec.ofInt 32 (-640)) zero) fresh = some (.bitTime 3 0) ∧
    answerOf (.bitTimeDecode 4294967295 0 zero) fresh = some (.bitTime 6710886 0) := by decide +kernel

/-- V7. -/
theorem test_preparePacket : answerOf (.preparePacket 0x8A4 8 [0x00, 0x11] 1 zero) fresh = some (.prepared true f8 s8) ∧
    answerOf (.preparePacket 0x8A4 8 [0x00] 2 zero) fresh = some (.prepared false [] []) := by decide +kernel

theorem test_stuffFrame : answerOf (.stuffFrame ⟨f8, some 9⟩ zero) fresh = some (.stream s8) ∧
    answerOf (.stuffFrame ⟨[], none⟩ zero) fresh = some (.stream []) := by decide +kernel

/-! The transmit engine: a queue of one slot, so that it is soon full (V19). -/

/-- The block with one transmit slot, which holds the §8 frame. -/
def oneWaiting : State :=
  { fresh with params := { referenceParams with txQ := 1 }, txSlots := [queuedSlot f8 1], txTimerEnabled := true }

theorem test_txEnqueue :
    let s := endOf (exec (.txEnqueue 0x8A4 8 [0x00] 1 zero) fresh)
    s.txSlots[0]? = some (queuedSlot f8 1) ∧ s.txHead = 1 ∧ s.txTimerEnabled = true ∧ s.result = .u1 true ∧
      answerOf (.txEnqueue 0x8A4 8 [0x00] 1 zero) oneWaiting = some (.u1 false) := by decide +kernel

theorem test_sendPacket :
    let s := endOf (exec (.sendPacket 0x8A4 8 [0x00] 1 0 zero) oneWaiting)
    s.result = .u1 false ∧ s.txStats.txDropped = 1 := by decide +kernel

theorem test_sendPacket_length :
    let s := endOf (exec (.sendPacket 0x8A4 8 [0x00] 29 100 zero) fresh)
    s.result = .u1 false ∧ s.txStats.txDropped = 0 := by decide +kernel

theorem test_syncSendPacket :
    let s := endOf (exec (.syncSendPacket 0x8A4 8 [0x00] 1 100 zero) fresh)
    s.txSlots[0]? = some (queuedSlot f8 1) ∧ s.result = .pending ∧
      (s.send.map fun h => (h.sendPhase, h.sendSlot, h.nextPollMs)) = some (.waitDone, 0, 0) := by decide +kernel

/-- V19: the first tick starts the frame; a collision at bit 9. -/
theorem test_evTxTick_start :
    let s := endOf (exec (.evTxTick true ⟨15000, 0⟩) oneWaiting)
    s.rxTxSuspended = true ∧ s.txPinLevel = false ∧ (s.txSlots.map TxSlot.bitIndex) = [1] := by decide +kernel

theorem test_evTxTick_collision :
    let sending := { oneWaiting with
      rxTxSuspended := true, txSlots := [{ queuedSlot f8 1 with state := .sending, bitIndex := 10 }] }
    let s := endOf (exec (.evTxTick false ⟨16400, 0⟩) sending)
    s.rxTxSuspended = false ∧ s.txPinLevel = true ∧ s.lastBusActivity = 16400 ∧
      (s.txSlots.map fun t => (t.state, t.bitIndex, t.collisions, t.firstCollisionPos)) = [(.waiting, 0, 1, some 9)] := by
  decide +kernel

/-! The decoder: the ACK window of V15. -/

/-- The block with the §8 frame in WAITING_ACK, as after `FEED 103200, s8` up to its EOD edge (V15). -/
def waiting : State :=
  { fresh with
    prevEdgeTime := 141600
    lastBusActivity := 141600
    ackArmed := true
    ackDeadline := 143200
    rxSlots := fresh.rxSlots.set 0 { vacantSlot with state := .waitingAck, bytes := bufferOf f8, size := 6 } }

theorem test_evEdge_ack :
    let s := endOf (exec (.evEdge false ⟨141920, 1⟩) waiting)
    s.head = 1 ∧ s.ackArmed = false ∧ s.rxStats = ⟨1, 0, 0, 1⟩ ∧
      s.rxSlots[0]? = some { vacantSlot with state := .done, bytes := bufferOf f8, size := 6, ack := .ack, timestamp := 1 } := by
  decide +kernel

theorem test_evEdge_fallback :
    let s := endOf (exec (.evEdge false ⟨143199, 1⟩) waiting)
    s.nBits = 2 ∧ s.jitter = 319 ∧ s.ackArmed = false ∧ (s.rxSlots[0]?.map RxSlot.state) = some .loading := by decide +kernel

theorem test_evAckTimeout :
    let s := endOf (exec (.evAckTimeout ⟨143200, 7⟩) waiting)
    s.head = 1 ∧ s.ackArmed = false ∧
      s.rxSlots[0]? = some { vacantSlot with state := .done, bytes := bufferOf f8, size := 6, timestamp := 7 } := by decide +kernel

/-- V15: the timeout due at the instant of an edge comes first, in a step of its own (60_exceptions.md R364, R365). -/
theorem test_step_timeoutFirst :
    let s := endOf (step { waiting with input := encode (.evEdge false ⟨143200, 1⟩) })
    let u := endOf (step s)
    s.input = encode (.evEdge false ⟨143200, 1⟩) ∧ s.head = 1 ∧ s.rxStats.rxCount = 1 ∧
      (s.rxSlots.map RxSlot.state) = [.done, .vacant, .vacant, .vacant] ∧
      u.input = [] ∧ u.rxStats.rxCount = 1 ∧ (u.rxSlots.map RxSlot.state) = [.done, .searching, .vacant, .vacant] := by
  decide +kernel

/-- R304: the pass after the enqueue looks at the slot; with a timeout of 0 the send ends there, the frame queued. -/
theorem test_step_waitDone :
    let s := endOf (exec (.syncSendPacket 0x8A4 8 [0x00] 1 0 zero) fresh)
    let u := endOf (step s)
    s.result = .pending ∧ u.result = .u1 false ∧ u.send = none ∧ u.txSlots[0]? = some (queuedSlot f8 1) ∧
      u.txStats.txDropped = 0 := by decide +kernel

/-- R148: the bands of an odd bit-time 641 at twice the clock: the zero band ends at 641, not at 642. -/
theorem test_scaleClock :
    let p := scaleClock 2 1 (paramsAt 641)
    p.t = 1282 ∧ (bitCount p 640 0).n = 0 ∧ (bitCount p 641 0).n = 1 ∧ (bitCount p 1922 0).n = 1 ∧
      (bitCount p 1923 0).n = 2 := by decide +kernel

/-- V16: a run of five dominant bits at offset 0 is shortened, and frame bit 27 flagged. -/
theorem test_correction :
    let slot := { vacantSlot with state := .loading, bytes := bufferOf [0x0E, 0x8A, 0x48], size := 3 }
    let f := correctRun referenceParams false 0 ⟨5, 0⟩ slot
    f.n = 4 ∧ f.jitter = -640 ∧ f.slot.uncertain = some 27 := by decide +kernel

/-- The table's word, placed where the step fetches, is the operation the step performs. -/
theorem test_withFetchWord :
    let s := endOf (step (State.reset.withFetchWord 8 0x24))
    s.result = .bitTime 0 0 ∧ s.input = [] := by decide +kernel

/-- R120: a line of text is assembled to the record written out by hand. -/
theorem test_assemble :
    assembleLine zero "@0x10/2 TX_ENQUEUE 0x8A4, 0x8, [0x00], 1 ; comment".toList =
      some (⟨16, 2⟩, .record [0x26, 0xA4, 0x08, 0x08, 1, 0x00, 1, 16, 0, 0, 0, 2, 0, 0, 0]) := by decide +kernel

/-! ### Witnesses: for every statement with hypotheses, a case that meets them

`witness_<Name>` belongs to `Obligations.<Name>`. The operands stand at boundary values of their ranges. -/

/-- The outcome is a next state. -/
def completes (o : Out) : Bool :=
  match o with
  | .next _ => true
  | _ => false

theorem next_of_completes {o : Out} (h : completes o = true) : ∃ s, o = .next s := by
  cases o with
  | next s => exact ⟨s, rfl⟩
  | fault r => cases h
  | refused r => cases h

/-- A property of the elements of a list at their places, checked place by place. -/
theorem forall_getElem? {α : Type} (P : Nat → α → Prop) : ∀ (l : List α) (k : Nat), (∀ p ∈ l.zipIdx k, P p.2 p.1) →
    ∀ (i : Nat) (a : α), l[i]? = some a → P (k + i) a
  | [], _, _, _, _, h => by cases h
  | b :: l, k, hp, 0, a, h => by
    cases h
    exact hp (b, k) (by simp)
  | b :: l, k, hp, i + 1, a, h => by
    have := forall_getElem? P l (k + 1) (fun p hm => hp p (by simp [List.zipIdx_cons, hm])) i a h
    rwa [Nat.add_assoc, Nat.add_comm 1 i] at this

theorem at_each {α : Type} (P : Nat → α → Prop) (l : List α) (h : ∀ p ∈ l.zipIdx, P p.2 p.1) (i : Nat) (a : α)
    (ha : l[i]? = some a) : P i a := by
  simpa using forall_getElem? P l 0 h i a ha

/-! #### Good states -/

theorem legal_reference : LegalParams referenceParams where
  t_pos := by decide
  qMax_ge := by decide
  txQ_pos := by decide
  pollMs_pos := by decide
  sof_mem := by decide +kernel
  sof_near := by decide +kernel
  bands_finite := by decide +kernel
  bands_ascend := by decide +kernel
  corrections_shorten := by decide +kernel

theorem vacantSlot_ok : RxSlotOk vacantSlot where
  size_le := by decide
  bytes_wf := by decide
  of_vacant := by decide
  of_searching := by decide
  of_loaded := by decide
  of_waiting := by decide
  of_open := by decide
  of_ok := by decide
  of_maxPacket := by decide
  uncertain_lt := by intro i h; cases h

/-- A slot in each open state that holds a frame, or none. -/
def searchingSlot : RxSlot := { vacantSlot with state := .searching }

/-- A slot that has loaded four bytes of the §8 frame. -/
def loadingSlot : RxSlot := { vacantSlot with state := .loading, bytes := bufferOf [0x0E, 0x8A, 0x48, 0x00], size := 4 }

/-- A slot in WAITING_ACK with the §8 frame. -/
def waitingSlot : RxSlot := { vacantSlot with state := .waitingAck, bytes := bufferOf f8, size := 6 }

theorem searchingSlot_ok : RxSlotOk searchingSlot where
  size_le := by decide
  bytes_wf := by decide
  of_vacant := by decide
  of_searching := by decide
  of_loaded := by decide
  of_waiting := by decide
  of_open := by decide
  of_ok := by decide
  of_maxPacket := by decide
  uncertain_lt := by intro i h; cases h

theorem loadingSlot_ok : RxSlotOk loadingSlot where
  size_le := by decide
  bytes_wf := by decide
  of_vacant := by decide
  of_searching := by decide
  of_loaded := by decide
  of_waiting := by decide
  of_open := by decide
  of_ok := by decide
  of_maxPacket := by decide
  uncertain_lt := by intro i h; cases h

theorem waitingSlot_ok : RxSlotOk waitingSlot where
  size_le := by decide
  bytes_wf := by decide
  of_vacant := by decide
  of_searching := by decide
  of_loaded := by decide
  of_waiting := by decide
  of_open := by decide
  of_ok := by decide
  of_maxPacket := by decide
  uncertain_lt := by intro i h; cases h

theorem doneSlot_ok : RxSlotOk doneSlot where
  size_le := by decide
  bytes_wf := by decide
  of_vacant := by decide
  of_searching := by decide
  of_loaded := by decide
  of_waiting := by decide
  of_open := by decide
  of_ok := by decide
  of_maxPacket := by decide
  uncertain_lt := by intro i h; cases h

/-- The block with an unread frame at `tail = 3` and `slot` at `head = 0`; the TX queue holds one frame. -/
def busy (slot : RxSlot) (armed : Bit) : State :=
  { fresh with
    prevEdgeTime := 141600
    lastBusActivity := 141600
    ackArmed := armed
    ackDeadline := 143200
    rxSlots := [slot, vacantSlot, vacantSlot, doneSlot]
    tail := 3
    rxStats := ⟨1, 0, 0, 1⟩
    txSlots := [queuedSlot f8 1, freeSlot, freeSlot, freeSlot]
    txHead := 1
    txTimerEnabled := true }

theorem busy_rxInv (slot : RxSlot) (armed : Bit) (hok : RxSlotOk slot) (hopen : slot.state ≠ .done)
    (harm : armed = true ↔ slot.state = .waitingAck) : RxInv (busy slot armed) where
  off := fun h => absurd h (show ¬ fresh.configured = false by decide +kernel)
  on := fun _ =>
    { length_eq := show 4 = fresh.q.toNat by decide +kernel
      q_ge := show 2 ≤ fresh.q.toNat by decide +kernel
      q_le := show fresh.q.toNat ≤ fresh.params.qMax by decide +kernel
      head_lt := show fresh.head < fresh.q.toNat by decide +kernel
      tail_lt := show 3 < fresh.q.toNat by decide +kernel
      slots_ok := by
        intro x hx
        rcases List.mem_cons.mp hx with rfl | hx
        · exact hok
        rcases List.mem_cons.mp hx with rfl | hx
        · exact vacantSlot_ok
        rcases List.mem_cons.mp hx with rfl | hx
        · exact vacantSlot_ok
        rcases List.mem_cons.mp hx with rfl | hx
        · exact doneSlot_ok
        cases hx
      head_open := by
        intro x hx
        cases hx
        exact hopen
      others_closed := by
        intro i x hi hx
        match i, hi, hx with
        | 0, hi, _ => exact absurd rfl hi
        | 1, _, hx => cases hx; exact .inl rfl
        | 2, _, hx => cases hx; exact .inl rfl
        | 3, _, hx => cases hx; exact .inr rfl
        | i + 4, _, hx => cases hx
      nBits_le := show fresh.nBits ≤ 9 by decide +kernel
      readBits_lt := show fresh.readBits.toNat < 2 ^ fresh.nBits by decide +kernel
      ack_armed := by
        constructor
        · intro h
          exact ⟨slot, rfl, harm.mp h⟩
        · rintro ⟨x, hx, hs⟩
          cases hx
          exact harm.mpr hs }

theorem queued_ok : TxSlotOk (queuedSlot f8 1) where
  size_le := by decide +kernel
  bytes_wf := by decide +kernel
  bits_eq := by decide +kernel
  of_queued := by decide +kernel
  of_waiting := by decide +kernel
  of_sending := by decide +kernel

theorem freeSlot_ok : TxSlotOk freeSlot where
  size_le := by decide +kernel
  bytes_wf := by decide +kernel
  bits_eq := by decide +kernel
  of_queued := by decide +kernel
  of_waiting := by decide +kernel
  of_sending := by decide +kernel

/-- The block with an unread frame, a frame in WAITING_ACK, and a frame to send. -/
def inUse : State := busy waitingSlot true

theorem inUse_txInv : TxInv inUse where
  off := by intro h; exact absurd h (by decide +kernel)
  on := fun _ =>
    { length_eq := by decide +kernel
      head_lt := by decide +kernel
      tail_lt := by decide +kernel
      slots_ok := by
        intro t ht
        rcases List.mem_cons.mp ht with rfl | ht
        · exact queued_ok
        rcases List.mem_cons.mp ht with rfl | ht
        · exact freeSlot_ok
        rcases List.mem_cons.mp ht with rfl | ht
        · exact freeSlot_ok
        rcases List.mem_cons.mp ht with rfl | ht
        · exact freeSlot_ok
        cases ht
      sending_at_tail := at_each (fun i (t : TxSlot) => t.state = .sending → i = inUse.txTail) inUse.txSlots (by decide +kernel)
      suspended_iff := by decide +kernel
      pin_sending := by
        intro t ht hs
        cases ht
        exact absurd hs (by decide +kernel)
      pin_idle := by decide +kernel
      queue := ⟨1, by decide +kernel, by decide +kernel,
        at_each (fun i (t : TxSlot) => t.state ≠ .done ↔ txOffset inUse i < 1) inUse.txSlots (by decide +kernel)⟩
      timer := by decide +kernel }
  send_ok := by intro h hs; cases hs

theorem inUse_good : Good inUse :=
  ⟨legal_reference, busy_rxInv _ _ waitingSlot_ok (by decide) (by decide), inUse_txInv⟩

theorem inUse_inOrder : InOrder inUse where
  head_eq := by decide +kernel
  done_iff := at_each (fun i (x : RxSlot) => x.state = .done ↔
    rxOffset inUse i < inUse.nQueued) inUse.rxSlots (by decide +kernel)
  below_next := by decide +kernel
  rising := by
    have h : ∀ a ∈ inUse.rxSlots.zipIdx, ∀ b ∈ inUse.rxSlots.zipIdx,
        a.1.state = .done → b.1.state = .done →
        rxOffset inUse a.2 < rxOffset inUse b.2 →
        a.1.seqNo.toNat < b.1.seqNo.toNat := by decide +kernel
    intro i j a b ha hb
    have hi := fun p hp => at_each (fun j b => p.1.state = .done → b.state = .done →
      rxOffset inUse p.2 < rxOffset inUse j → p.1.seqNo.toNat < b.seqNo.toNat)
      _ (fun q hq => h p hp q hq) j b hb
    exact at_each (fun i a => a.state = .done → b.state = .done →
      rxOffset inUse i < rxOffset inUse j → a.seqNo.toNat < b.seqNo.toNat)
      _ (fun p hp => hi p hp) i a ha

/-! #### Encoding and the step -/

theorem witness_DecodeEncodeRoundTrip :
    (Instr.sendPacket 0xFFF 0xF (List.replicate 33 0xFF) 0xFF 0xFFFFFFFF zero).wellFormed = true ∧
    (Instr.repair ⟨List.replicate 33 0, some 263⟩ (some (.caller 7)) zero).wellFormed = true := by decide +kernel

theorem witness_DecodedBytesAreTheRecord :
    decode [0x80, 1, 0, 0, 0, 0, 0, 0, 0, 0, 0x55] = .ok (.evEdge true zero, [0x55]) := rfl

theorem witness_UnassignedCodesAreRefused :
    ∃ s : State, s.input = [0x83] ∧ decode [0x83] = .error (.unassigned 0x83) := ⟨{ fresh with input := [0x83] }, rfl, rfl⟩

/-- The least value outside each range, and the greatest inside where two operands follow each other. -/
theorem witness_OutOfRangeOperandsAreRefused :
    264 ≤ 256 * (1 : Byte).toNat + (8 : Byte).toNat ∧ (List.replicate 33 (0 : Byte)).length ≤ 33 ∧ 5 ≤ (5 : Byte).toNat ∧
    frameOk ⟨List.replicate 33 0, some 263⟩ = true ∧
    2 ≤ (2 : Byte).toNat ∧ 4 ≤ (4 : Byte).toNat ∧ 16 ≤ (16 : Byte).toNat ∧ (15 : Byte).toNat < 16 ∧ 33 < (34 : Byte).toNat ∧
    (0x10 ≤ (0x10 : Byte).toNat ∧ (0x10 : Byte).toNat ≤ 0x16) ∧
    ∃ s : State, decode s.input = .error .operandRange :=
  ⟨by decide, by decide, by decide, by decide, by decide, by decide, by decide, by decide, by decide, by decide,
    { fresh with input := [0x10, 34] }, rfl⟩

/-- The three clauses: no timeout and no send; a timeout due at the very instant of the edge; the pass of a send due one
millisecond before a tick, and at a command. -/
theorem witness_StepRunsTheDecodedOperation :
    (∃ s, decode s.input = .ok (.evEdge false ⟨143199, 0⟩, []) ∧ hostFirst (.evEdge false ⟨143199, 0⟩) s = false ∧
      timeoutFirst (.evEdge false ⟨143199, 0⟩) s = false) ∧
    (∃ s, decode s.input = .ok (.evEdge false ⟨143200, 0⟩, []) ∧ hostFirst (.evEdge false ⟨143200, 0⟩) s = false ∧
      timeoutFirst (.evEdge false ⟨143200, 0⟩) s = true ∧
      ∃ u, step s = .next u) ∧
    (∃ s, decode s.input = .ok (.evTxTick true ⟨0, 9⟩, []) ∧ hostFirst (.evTxTick true ⟨0, 9⟩) s = true) ∧
    ∃ s, decode s.input = .ok (.enable zero, []) ∧ hostFirst (.enable zero) s = true :=
  ⟨⟨{ waiting with input := encode (.evEdge false ⟨143199, 0⟩) }, by decide +kernel⟩,
    ⟨{ waiting with input := encode (.evEdge false ⟨143200, 0⟩) }, by decide +kernel, by decide +kernel, by decide +kernel,
      next_of_completes (by decide +kernel)⟩,
    ⟨{ fresh with input := encode (.evTxTick true ⟨0, 9⟩), send := some (newSend .async 0 0 [] 0 100 8) }, by decide +kernel⟩,
    ⟨{ fresh with input := encode (.enable zero), send := some (newSend .async 0 0 [] 0 100 8) }, by decide +kernel⟩⟩

/-! #### Configuration and host control -/

theorem witness_SetupWritesEveryField :
    fresh.configured = true ∧ (1 : Word).toNat < 2 ∧ State.reset.params.qMax < (257 : Word).toNat ∧
    (State.reset.configured = false ∧ 2 ≤ (2 : Word).toNat ∧ (2 : Word).toNat ≤ State.reset.params.qMax) ∧
    (256 : Word).toNat ≤ State.reset.params.qMax := by decide +kernel

theorem witness_ConfigurationIsPermanent :
    ∃ s s' : State, step s = .next s' ∧ s.configured = true := by
  obtain ⟨s', h⟩ := next_of_completes
    (show completes (step { inUse with input := encode (.setup 1 2 8 zero) }) = true by decide +kernel)
  exact ⟨_, s', h, by decide +kernel⟩

theorem witness_BeforeSetupNothingHappens : State.reset.configured = false := rfl

/-- A frame to take, none to take, and no configuration. -/
theorem witness_ReceiveTakesTheTailFrame :
    (inUse.rxSlots[inUse.tail]? = some doneSlot ∧ inUse.configured = true ∧ doneSlot.state = .done) ∧
    (fresh.rxSlots[fresh.tail]? = some vacantSlot ∧ vacantSlot.state ≠ .done) ∧
    ({ unread with configured := false } : State).rxSlots[unread.tail]? = some doneSlot := by decide +kernel

theorem witness_QueriesAnswerAndChangeNothing :
    inUse.rxSlots[inUse.tail]? = some doneSlot ∧ inUse.configured = true ∧ State.reset.configured = false := by
  decide +kernel

/-! #### Codecs -/

theorem witness_StuffFrameBuildsTheStream :
    (⟨[], none⟩ : Frame).bytes = [] ∧ (⟨f8, none⟩ : Frame).bytes = [0x0E, 0x8A, 0x48, 0x00, 0xFC] ++ [0x1C] := ⟨rfl, rfl⟩

/-- Five recessive bits from the check bit of a high nibble, across the end of a group, and six dominant bits at the
end. -/
theorem witness_StuffedRunLengths :
    (∀ j < 5, (([0x0F] : List Byte).map encGroup |>.flatMap groupBitsOf)[4 + j]? = some true) ∧
    (∀ j < 5, (([0x00, 0xF0] : List Byte).map encGroup |>.flatMap groupBitsOf)[9 + j]? = some true) ∧
    (0x10 : Byte).getLsbD 0 = false ∧ ∀ j < 6, (stuffBits ([] ++ [0x10]))[4 + j]? = some false := by decide +kernel

theorem witness_BitIndexMapsAreInverse : bitOf 8 = some 7 ∧ bitOf 10 = some 8 := by decide

theorem witness_BitTimeDecodeMatchesTheFormula :
    (0 < 2 ∧ 2 ∣ 3 * 642) ∧ 0 < State.reset.params.t ∧
    State.reset.params.bandTable = referenceBands State.reset.params.t ∧
    ∃ s : State, 0 < s.params.t ∧ ∃ num den t0, 0 < den ∧ den ∣ num * t0 ∧ s.params = scaleClock num den (paramsAt t0) :=
  ⟨by decide, by decide +kernel, by decide +kernel, { State.reset with params := scaleClock 2 1 (paramsAt 641) },
    by decide +kernel, 2, 1, 641, by decide, by decide, rfl⟩

/-- The first band below 320, the last from 6080 to 6719, and none from 6720 on. -/
theorem witness_BitTimeDecodeFollowsAnyBandTable :
    let e (c : Word) : Int := (c.toNat : Int) - (0 : SWord).toInt
    (∀ b ∈ State.reset.params.bandTable, 0 < b.hi.den) ∧
    State.reset.params.bandTable.Pairwise (fun a b => a.hi.num * (b.hi.den : Int) < b.hi.num * (a.hi.den : Int)) ∧
    (State.reset.params.bandTable[0]? = some ⟨⟨640, 2⟩, 0, 0⟩ ∧ e 319 * 2 < 640) ∧
    (State.reset.params.bandTable[10]? = some ⟨⟨13440, 2⟩, 10, 6400⟩ ∧ e 6719 * 2 < 13440 ∧
      State.reset.params.bandTable[9]? = some ⟨⟨12160, 2⟩, 9, 5760⟩ ∧ ¬ e 6080 * 2 < 12160) ∧
    ∀ b ∈ State.reset.params.bandTable, ¬ e 6720 * b.hi.den < b.hi.num := by decide +kernel

/-- Both ends of the carry's range. -/
theorem witness_JitterStaysInRange :
    ∃ s s' : State, ReferenceTables s.params ∧ JitterInRange s ∧ s.jitter = BitVec.ofInt 32 (-640) ∧ step s = .next s' ∧
      JitterInRange { s with jitter := 319 } := by
  obtain ⟨s', h⟩ := next_of_completes (show completes (step
    { busy loadingSlot false with jitter := BitVec.ofInt 32 (-640), input := encode (.evEdge true ⟨142240, 0⟩) }) = true
    by decide +kernel)
  exact ⟨_, s', ⟨by decide +kernel, by decide +kernel, by decide +kernel, by decide +kernel⟩,
    ⟨by decide +kernel, by decide +kernel⟩, by decide +kernel, h, ⟨by decide +kernel, by decide +kernel⟩⟩

theorem witness_ExactlyTwoFieldsPassTheCheck : 1 ≤ ([0x0E] : List Byte).length := by decide

theorem witness_SingleFlipsAreDetected : crcValid f8 = true ∧ 8 ≤ 8 ∧ 8 ≤ 47 ∧ 47 < 8 * f8.length := by decide +kernel

/-- A valid frame; one with no valid configuration; one repaired by the second configuration tried. -/
theorem witness_RepairTakesTheFirstValidTrial :
    crcValid f8 = true ∧
    (crcValid [0x0E, 0x00] = false ∧
      ∀ t ∈ repairTrials ⟨[0x0E, 0x00], some 8⟩, crcValid (applyTrial [0x0E, 0x00] t) = false) ∧
    (crcValid [0x0E, 0x0A, 0x48, 0x00, 0xFC, 0x1C] = false ∧
      repairTrials ⟨[0x0E, 0x0A, 0x48, 0x00, 0xFC, 0x1C], some 27⟩ =
        [(.uncertain, [27])] ++ (.one, [8]) :: (repairTrials ⟨[0x0E, 0x0A, 0x48, 0x00, 0xFC, 0x1C], some 27⟩).drop 2 ∧
      (∀ u ∈ [((.uncertain, [27]) : Trial)], crcValid (applyTrial [0x0E, 0x0A, 0x48, 0x00, 0xFC, 0x1C] u) = false) ∧
      crcValid (applyTrial [0x0E, 0x0A, 0x48, 0x00, 0xFC, 0x1C] (.one, [8])) = true) := by decide +kernel

/-- The first and the last bit of a frame, and a trial of two bits at the end of the list. -/
theorem witness_RepairTrialsFollowTheSearchOrder :
    0 < 8 * f8.length ∧ 47 < 8 * f8.length ∧ (.uncertain, [47]) ∈ repairTrials ⟨f8, some 47⟩ ∧
    (.twoConsecutive, [47, 46]) ∈ repairTrials ⟨f8, none⟩ ∧ 8 < f8.length * 8 := by decide +kernel

theorem witness_RepairRestoresSingleAndPairFlips :
    f8.length ≤ 33 ∧ crcValid f8 = true ∧ 8 ≤ 8 ∧ 9 ≤ 9 ∧ 8 ≤ 47 ∧ 47 < 8 * f8.length := by decide +kernel

/-! #### The receive decoder -/

theorem witness_EdgePrologueInEveryState :
    ∃ s s' : State, exec (.evEdge true zero) s = .next s' ∧ s.configured = true ∧ s.rxHostEnabled = true ∧
      s.rxTxSuspended = false := by
  obtain ⟨s', h⟩ := next_of_completes (show completes (exec (.evEdge true zero) inUse) = true by decide +kernel)
  exact ⟨inUse, s', h, by decide +kernel⟩

/-- Each source off by each of its bits; the timer's last instant before it has run out. -/
theorem witness_UndeliveredEventsChangeNothing :
    State.reset.configured = false ∧ ({ fresh with rxHostEnabled := false } : State).rxHostEnabled = false ∧
    ({ fresh with rxTxSuspended := true } : State).rxTxSuspended = true ∧ fresh.txTimerEnabled = false ∧
    fresh.ackArmed = false ∧ waiting.ackArmed = true ∧ 2 ^ 31 ≤ ((143199 : Word) - waiting.ackDeadline).toNat ∧
    ((143200 + 2147483648 : Word) - waiting.ackDeadline).toNat = 2 ^ 31 := by decide +kernel

/-- Edges reach the block. -/
def edgesOn (s : State) : Prop := s.configured = true ∧ s.rxHostEnabled = true ∧ s.rxTxSuspended = false

theorem inUse_edgesOn : edgesOn inUse := by unfold edgesOn; decide +kernel

theorem witness_VacantEdgeStartsASearch :
    edgesOn fresh ∧ fresh.rxSlots[fresh.head]? = some vacantSlot ∧ vacantSlot.state = .vacant := by
  unfold edgesOn; decide +kernel

/-- Eleven bits, the least that are too many, in both states. -/
theorem witness_OverlongRunEndsTheFrame :
    (edgesOn (busy searchingSlot false) ∧ (busy searchingSlot false).rxSlots[0]? = some searchingSlot ∧
      searchingSlot.state = .searching) ∧
    (edgesOn (busy loadingSlot false) ∧ (busy loadingSlot false).rxSlots[0]? = some loadingSlot ∧
      loadingSlot.state = .loading) ∧
    (bitCount referenceParams ((148320 : Word) - (busy loadingSlot false).prevEdgeTime) (busy loadingSlot false).jitter).n =
      11 := by
  unfold edgesOn; decide +kernel

/-- A run of ten measured bits at offset 0, shortened to nine, and an empty run at offset 9. -/
theorem witness_ShortRunIsAppended :
    (edgesOn (busy loadingSlot false) ∧ (busy loadingSlot false).rxSlots[0]? = some loadingSlot ∧
      (bitCount referenceParams ((148000 : Word) - (busy loadingSlot false).prevEdgeTime) (busy loadingSlot false).jitter).n =
        10 ∧
      (correctRun referenceParams false 0 ⟨10, 0⟩ loadingSlot).n = 9) ∧
    (edgesOn { busy searchingSlot false with nBits := 9 } ∧ searchingSlot.state = .searching ∧
      (bitCount referenceParams ((141600 : Word) - (busy loadingSlot false).prevEdgeTime) (busy loadingSlot false).jitter).n = 0 ∧
      (correctRun referenceParams false 9 ⟨0, 0⟩ searchingSlot).n = 0) := by
  unfold edgesOn; decide +kernel

/-- A search that has nine bits, then one recessive bit: SOF after 0b000011110, no SOF after nine dominant bits. -/
theorem witness_FirstGroupIsTheSofTest :
    let s : State := { busy searchingSlot false with nBits := 9, readBits := 0b000011110 }
    let r := bitCount s.params ((142240 : Word) - s.prevEdgeTime) s.jitter
    let f := correctRun s.params true s.nBits r searchingSlot
    edgesOn s ∧ s.rxSlots[s.head]? = some searchingSlot ∧ searchingSlot.state = .searching ∧ r.n ≤ 10 ∧ s.nBits + f.n = 10 ∧
      (((s.readBits <<< f.n) ||| BitVec.ofNat 20 (2 ^ f.n - 1)).setWidth 10 : Group) ∈ s.params.sofAccept ∧
      ((((0 : BitVec 20) <<< f.n) ||| BitVec.ofNat 20 (2 ^ f.n - 1)).setWidth 10 : Group) ∉ s.params.sofAccept := by
  unfold edgesOn; decide +kernel

/-- A slot that has loaded `n` bytes of the value 1. -/
def loadedSlot (n : Nat) : RxSlot :=
  { vacantSlot with state := .loading, bytes := bufferOf (0x0E :: List.replicate (n - 1) 1), size := n }

/-- Eight bits in hand, then two dominant bits: an EOD group at byte 3, at byte 4, and as the 34th group; then nine in
hand and one recessive bit at byte 32. -/
theorem witness_LaterGroupsAreLoaded :
    let s (n k : Nat) : State := { busy (loadedSlot n) false with nBits := k }
    let two := bitCount referenceParams ((142880 : Word) - (s 3 8).prevEdgeTime) (s 3 8).jitter
    let one := bitCount referenceParams ((142240 : Word) - (s 32 9).prevEdgeTime) (s 32 9).jitter
    (∀ n ∈ [3, 4, 33], edgesOn (s n 8) ∧ (s n 8).rxSlots[(s n 8).head]? = some (loadedSlot n) ∧
      (loadedSlot n).state = .loading ∧ (s n 8).nBits + (correctRun referenceParams false 8 two (loadedSlot n)).n = 10) ∧
    two.n ≤ 10 ∧ (0 : Group).extractLsb' 0 2 ∈ referenceParams.eodAccept ∧ (loadedSlot 3).size + 1 < 5 ∧
    5 ≤ (loadedSlot 4).size + 1 ∧ 33 ≤ (loadedSlot 33).size ∧
    edgesOn (s 32 9) ∧ one.n ≤ 10 ∧ 9 + (correctRun referenceParams true 9 one (loadedSlot 32)).n = 10 ∧
    (loadedSlot 32).size < 33 ∧ (1 : Group).extractLsb' 0 2 ∉ referenceParams.eodAccept := by
  unfold edgesOn; decide +kernel

/-- Illegal runs at both ends of the offsets, in both states, with the flagged bit a check bit at offset 1; the EOD form;
and a legal run. -/
theorem witness_SwallowedCheckBitCorrection :
    let illegal (o n : Nat) := ∃ k ∈ List.range n, 1 ≤ k ∧ ((o + k) % 10 = 4 ∨ (o + k) % 10 = 9)
    referenceParams.runCorrections = referenceCorrections referenceParams.t ∧
    illegal 0 5 ∧ illegal 9 10 ∧ illegal 1 5 ∧ (10 * loadingSlot.size + 1 + (5 - 1) - 1) % 10 = 4 ∧
    searchingSlot.state = .searching ∧ loadingSlot.state = .loading ∧ loadingSlot.uncertain = none ∧
    illegal 5 5 ∧ ¬ illegal 4 5 := by decide +kernel

/-- Both ends of the ACK window, the first instants outside it, and the wrong level. -/
theorem witness_AckPulseOrMoreData :
    edgesOn inUse ∧ inUse.rxSlots[inUse.head]? = some waitingSlot ∧ waitingSlot.state = .waitingAck ∧
    (let c (now : Word) : Int := (now - inUse.prevEdgeTime).toNat
    (inUse.params.ackMin.num ≤ c 141920 * inUse.params.ackMin.den ∧
      c 142559 * inUse.params.ackMax.den < inUse.params.ackMax.num) ∧
    ¬ (inUse.params.ackMin.num ≤ c 141919 * inUse.params.ackMin.den) ∧
    ¬ (c 142560 * inUse.params.ackMax.den < inUse.params.ackMax.num)) := by unfold edgesOn; decide +kernel

theorem witness_AckTimeoutCompletesTheFrame :
    (inUse.ackArmed = true ∧ ((143200 : Word) - inUse.ackDeadline).toNat < 2 ^ 31 ∧
      inUse.rxSlots[inUse.head]? = some waitingSlot ∧ waitingSlot.state = .waitingAck ∧
      (inUse.head + 1) % inUse.q.toNat < inUse.rxSlots.length) ∧
    ((busy vacantSlot true).ackArmed = true ∧ (busy vacantSlot true).rxSlots[0]? = some vacantSlot ∧
      vacantSlot.state ≠ .waitingAck) := by decide +kernel

/-- The head slot can move to a VACANT slot, or, with the queue full, to an unread frame; a policy with threshold 0 drops
the frame while another is unread. -/
theorem witness_CompletionQueuesDropsOrOverwrites :
    (inUse.head < inUse.rxSlots.length ∧ (inUse.head + 1) % inUse.q.toNat ≠ inUse.head ∧
      inUse.rxSlots[(inUse.head + 1) % inUse.q.toNat]? = some vacantSlot ∧ inUse.dropEnabled = false) ∧
    (({ inUse with rxSlots := [waitingSlot, doneSlot, doneSlot, doneSlot] } : State).rxSlots[(inUse.head + 1) % inUse.q.toNat]? =
      some doneSlot) ∧
    ((0 : Word).toNat < ((List.range inUse.rxSlots.length).filter fun i =>
        decide (i ≠ inUse.head) && (inUse.rxSlots[i]?.any fun x => decide (x.state = .done))).length ∧
      inUse.isEssential = .never) := by decide +kernel

theorem witness_DueTimeoutComesBeforeTheEdge :
    let s : State := { inUse with input := encode (.evEdge false ⟨143200, 1⟩) }
    RxInv s ∧ s.send = none ∧ decode s.input = .ok (.evEdge false ⟨143200, 1⟩, []) ∧
      s.rxSlots[s.head]? = some waitingSlot ∧ waitingSlot.state = .waitingAck ∧
      ((143200 : Word) - s.ackDeadline).toNat < 2 ^ 31 ∧ s.dropEnabled = false := by
  intro s
  have h := busy_rxInv waitingSlot true waitingSlot_ok (by decide) (by decide)
  exact ⟨⟨h.off, fun hc => { h.on hc with }⟩, rfl, by decide +kernel, rfl, rfl, by decide +kernel, by decide +kernel⟩

/-- An operation that completes on a state with a slot in each of the five states. -/
theorem witness_RxStateTransitions :
    LegalParams referenceParams ∧ RxInv (busy searchingSlot false) ∧ RxInv (busy loadingSlot false) ∧
    RxInv (busy waitingSlot true) ∧ (busy loadingSlot false).configured = true ∧
    (∃ s', exec (.evEdge true ⟨142240, 0⟩) (busy searchingSlot false) = .next s') ∧
    (∃ s', exec (.evEdge true ⟨142240, 0⟩) (busy loadingSlot false) = .next s') ∧
    (∃ s', exec (.evAckTimeout ⟨143200, 0⟩) (busy waitingSlot true) = .next s') ∧
    ((busy loadingSlot false).rxSlots.map RxSlot.state = [.loading, .vacant, .vacant, .done]) :=
  ⟨legal_reference, busy_rxInv _ _ searchingSlot_ok (by decide) (by decide),
    busy_rxInv _ _ loadingSlot_ok (by decide) (by decide), busy_rxInv _ _ waitingSlot_ok (by decide) (by decide),
    by decide +kernel, next_of_completes (by decide +kernel), next_of_completes (by decide +kernel),
    next_of_completes (by decide +kernel), rfl⟩

theorem witness_BuiltFramesAreReceivedIntact :
    edgesOn fresh ∧ fresh.ackArmed = false ∧ fresh.dropEnabled = false ∧ fresh.params = paramsAt fresh.params.t ∧
    0 < fresh.params.t ∧ 10 * fresh.params.t < 2 ^ 32 ∧ fresh.rxSlots.length = fresh.q.toNat ∧ 2 ≤ fresh.q.toNat ∧
    fresh.rxSlots[fresh.head]? = some vacantSlot ∧ (28 : Byte).toNat ≤ 28 ∧
    (28 : Byte).toNat ≤ (List.replicate 28 (0xFF : Byte)).length := by unfold edgesOn; decide +kernel

/-! #### The transmit side -/

theorem witness_PreparePacketBuildsTheFrame :
    28 < (29 : Byte).toNat ∧ ([0x00] : List Byte).length < (2 : Byte).toNat ∧ (28 : Byte).toNat ≤ 28 ∧
    (28 : Byte).toNat ≤ (List.replicate 28 (0 : Byte)).length := by decide

theorem witness_BuiltFramesPassTheCheck :
    (28 : Byte).toNat ≤ 28 ∧ (28 : Byte).toNat ≤ (List.replicate 28 (0 : Byte)).length ∧
    (0 : Byte).toNat ≤ ([] : List Byte).length := by decide

/-- A free slot and a full queue; with a length of 28, 29, and one more than there are bytes. -/
theorem witness_TxEnqueueQueuesTheFrame :
    (inUse.txSlots[inUse.txHead]? = some freeSlot ∧ inUse.configured = true ∧ freeSlot.state = .done) ∧
    (oneWaiting.txSlots[oneWaiting.txHead]? = some (queuedSlot f8 1) ∧ (queuedSlot f8 1).state ≠ .done) ∧
    28 < (29 : Byte).toNat ∧ ([0x00] : List Byte).length < (2 : Byte).toNat ∧ (28 : Byte).toNat ≤ 28 ∧
    ({ inUse with configured := false } : State).configured = false := by decide +kernel

theorem witness_SendPacketFirstAttempt :
    (inUse.txSlots[inUse.txHead]? = some freeSlot ∧ inUse.configured = true ∧ freeSlot.state = .done) ∧
    (oneWaiting.txSlots[oneWaiting.txHead]? = some (queuedSlot f8 1) ∧ oneWaiting.configured = true ∧
      (queuedSlot f8 1).state ≠ .done) ∧
    28 < (29 : Byte).toNat ∧ (28 : Byte).toNat ≤ 28 ∧ (28 : Byte).toNat ≤ (List.replicate 28 (0 : Byte)).length ∧
    (1 : Word) ≠ 0 := by decide +kernel

theorem witness_SyncSendPacketFirstAttempt :
    (inUse.txSlots[inUse.txHead]? = some freeSlot ∧ inUse.configured = true ∧ freeSlot.state = .done) ∧
    (oneWaiting.txSlots[oneWaiting.txHead]? = some (queuedSlot f8 1) ∧ oneWaiting.configured = true ∧
      (queuedSlot f8 1).state ≠ .done) ∧
    28 < (29 : Byte).toNat ∧ (28 : Byte).toNat ≤ 28 ∧ (28 : Byte).toNat ≤ (List.replicate 28 (0 : Byte)).length := by
  decide +kernel

/-- A send that waits: in each phase, before its timeout and at it, with the slot free and not. -/
theorem witness_BlockingSendPasses :
    let p (phase : SendPhase) (timeoutMs : Word) : Send :=
      { newSend .async 0x8A4 8 [0x00] 1 timeoutMs 3 with sendPhase := phase, nextPollMs := 13 }
    let s (p : Send) : State := { oneWaiting with send := some p }
    (s (p .waitSlot 10)).input = [] ∧ (s (p .waitSlot 10)).configured = true ∧ badLength [0x00] 1 = false ∧
    (s (p .waitSlot 10)).txSlots[oneWaiting.txHead]? = some (queuedSlot f8 1) ∧
    (s (p .waitDone 10)).txSlots[(p .waitDone 10).sendSlot]? = some (queuedSlot f8 1) ∧ (queuedSlot f8 1).state ≠ .done ∧
    (p .waitSlot 10).sendTimeoutMs.toNat ≤ ((p .waitSlot 10).nextPollMs - (p .waitSlot 10).sendStartMs).toNat ∧
    ¬ ((p .waitSlot 11).sendTimeoutMs.toNat ≤ ((p .waitSlot 11).nextPollMs - (p .waitSlot 11).sendStartMs).toNat) ∧
    (fresh.input = [] ∧ fresh.txSlots[fresh.txHead]? = some freeSlot ∧ freeSlot.state = .done ∧
      (p .waitSlot 10).kind = .async ∧ ({ p .waitSlot 10 with kind := .sync } : Send).kind = .sync) ∧
    decode (encode (.enable zero)) = .ok (.enable zero, []) ∧
    hostFirst (.enable zero) { s (p .waitSlot 10) with input := encode (.enable zero) } = true := by decide +kernel

/-- 7680 cycles of quiet are not enough, 7681 are. -/
theorem witness_TickStartsOrDefersAFrame :
    (oneWaiting.configured = true ∧ oneWaiting.txTimerEnabled = true ∧
      oneWaiting.txSlots[oneWaiting.txTail]? = some (queuedSlot f8 1) ∧ (queuedSlot f8 1).state = .waiting) ∧
    (8 + oneWaiting.params.ifsBits) * oneWaiting.params.t < ((12681 : Word) - oneWaiting.lastBusActivity).toNat ∧
    ((12680 : Word) - oneWaiting.lastBusActivity).toNat ≤ (8 + oneWaiting.params.ifsBits) * oneWaiting.params.t ∧
    ({ fresh with txTimerEnabled := true } : State).txSlots[fresh.txTail]? = some freeSlot ∧ freeSlot.state = .done := by
  decide +kernel

/-- The §8 frame with `k` bits driven. -/
def sendingSlot (k : Nat) : TxSlot := { queuedSlot f8 1 with state := .sending, bitIndex := k }

/-- The block sending its only frame. -/
def sending (k : Nat) : State := { oneWaiting with rxTxSuspended := true, txSlots := [sendingSlot k] }

/-- Bit 56 is the last recessive bit that is compared, bit 57 the last dominant one; bit 58 is not compared. -/
theorem witness_SendingTickChecksAndDrives :
    (∀ k ∈ [57, 58, 59], (sending k).configured = true ∧ (sending k).txTimerEnabled = true ∧
      (sending k).txSlots[(sending k).txTail]? = some (sendingSlot k) ∧ (sendingSlot k).state = .sending ∧
      1 ≤ (sendingSlot k).bitIndex ∧ (sendingSlot k).bitIndex ≠ (sendingSlot k).nTxBits) ∧
    (56 + 2 < 10 * (sendingSlot 57).size ∧ (sendingSlot 57).txBits.getD 56 false = true) ∧
    (57 + 2 < 10 * (sendingSlot 58).size ∧ (sendingSlot 58).txBits.getD 57 false = false) ∧
    ¬ (58 + 2 < 10 * (sendingSlot 59).size) := by decide +kernel

theorem witness_LastTickFinishesTheFrame :
    (sending 70).configured = true ∧ (sending 70).txTimerEnabled = true ∧
    (sending 70).txSlots[(sending 70).txTail]? = some (sendingSlot 70) ∧ (sendingSlot 70).state = .sending ∧
    (sendingSlot 70).bitIndex = (sendingSlot 70).nTxBits ∧ 10 * (sendingSlot 70).size ≤ (sendingSlot 70).nTxBits ∧
    ((sending 70).txSlots.set (sending 70).txTail { sendingSlot 70 with state := .done })[((sending 70).txTail + 1) %
      (sending 70).params.txQ]? = some { sendingSlot 70 with state := .done } := by decide +kernel

theorem witness_AQuietBusSendsTheWholeStream :
    TxInv inUse ∧ inUse.configured = true ∧ inUse.txTimerEnabled = true ∧
    inUse.txSlots[inUse.txTail]? = some (queuedSlot f8 1) ∧ (queuedSlot f8 1).state = .waiting ∧
    (8 + inUse.params.ifsBits) * inUse.params.t < ((149281 : Word) - inUse.lastBusActivity).toNat :=
  ⟨inUse_txInv, by decide +kernel⟩

/-! #### Frames, invariants and safety -/

theorem witness_EveryFieldHasItsWriters : ∃ s', exec (.evEdge false ⟨141920, 1⟩) inUse = .next s' :=
  next_of_completes (by decide +kernel)

/-- An edge that completes no frame, and operations of the other kinds. -/
theorem witness_EveryOtherByteOfTheBuffersIsKept :
    (∃ s', exec (.evEdge true ⟨142240, 1⟩) inUse = .next s' ∧ s'.rxStats.rxCount = inUse.rxStats.rxCount) ∧
    inUse.rxSlots[inUse.head]? = some waitingSlot ∧ (∃ s', exec (.receive zero) inUse = .next s') ∧
    ∃ s', exec (.txEnqueue 0x8A4 8 [0x00] 1 zero) inUse = .next s' :=
  ⟨⟨endOf (exec (.evEdge true ⟨142240, 1⟩) inUse), rfl, by decide +kernel⟩, rfl, next_of_completes (by decide +kernel),
    next_of_completes (by decide +kernel)⟩

/-- The good state `inUse` with a record placed. -/
def placed (i : Instr) : State := { inUse with input := encode i }

theorem placed_rxInv (i : Instr) : RxInv (placed i) :=
  ⟨inUse_good.rx.off, fun h => { inUse_good.rx.on h with }⟩

theorem placed_txInv (i : Instr) : TxInv (placed i) :=
  ⟨inUse_good.tx.off, fun h => { inUse_good.tx.on h with }, fun h hs => by cases hs⟩

theorem placed_inOrder (i : Instr) : InOrder (placed i) := { inUse_inOrder with }

/-- The ACK pulse completes a frame. -/
theorem placed_step : ∃ s', step (placed (.evEdge false ⟨141920, 1⟩)) = .next s' := next_of_completes (by decide +kernel)

theorem witness_EveryStepKeepsTheReceiveInvariant :
    ∃ s s' : State, LegalParams s.params ∧ RxInv s ∧ step s = .next s' :=
  placed_step.elim fun s' h => ⟨_, s', legal_reference, placed_rxInv _, h⟩

theorem witness_EveryStepKeepsTheTransmitInvariant :
    ∃ s s' : State, LegalParams s.params ∧ TxInv s ∧ step s = .next s' :=
  placed_step.elim fun s' h => ⟨_, s', legal_reference, placed_txInv _, h⟩

theorem witness_EveryStepKeepsTheBuffersCanonical : ∃ s s' : State, BuffersWf s ∧ step s = .next s' :=
  placed_step.elim fun s' h => ⟨_, s', ⟨by decide +kernel, by decide +kernel⟩, h⟩

theorem witness_UnreadFramesStayInOrder :
    ∃ s s' : State, LegalParams s.params ∧ RxInv s ∧ InOrder s ∧ step s = .next s' ∧
      s'.rxStats.rxOverwritten = s.rxStats.rxOverwritten ∧ s.rxStats.rxCount.toNat ≤ s'.rxStats.rxCount.toNat :=
  ⟨placed (.evEdge false ⟨141920, 1⟩), endOf (step (placed (.evEdge false ⟨141920, 1⟩))), legal_reference, placed_rxInv _,
    placed_inOrder _, rfl, by decide +kernel, by decide +kernel⟩

theorem witness_UnreadFramesAreBoundedAndAvailable : RxInv inUse ∧ inUse.configured = true ∧ InOrder inUse :=
  ⟨inUse_good.rx, by decide +kernel, inUse_inOrder⟩

theorem witness_GoodStatesNeverFault : Good inUse := inUse_good

theorem witness_AssembledRecordsDecode :
    assembleLine zero "@0x10/2 EV_EDGE level=1".toList = some (⟨16, 2⟩, .record [0x80, 1, 16, 0, 0, 0, 2, 0, 0, 0]) := by
  decide +kernel

end Sys2Proof.Tests
end

section
/-! SUPPORT. What one operation can do, said once: every operation that answers a next state has one of the effects of
`Effect`, and each effect names the part of the block it leaves alone. The statements about every step rest on these. -/

namespace Sys2Proof.Machine

open Sys2Proof.Config

/-! ### The parts of the block that an operation leaves alone -/

/-- The two states have the same build, configuration (10_state.md R33) and pool sizes. -/
structure SameBuild (s s' : State) : Prop where
  params : s'.params = s.params
  configured : s'.configured = s.configured
  q : s'.q = s.q
  rxPin : s'.rxPin = s.rxPin
  txPin : s'.txPin = s.txPin
  rxLength : s'.rxSlots.length = s.rxSlots.length
  txLength : s'.txSlots.length = s.txSlots.length

/-- The two states agree on what the receive side's invariants speak of. ENABLE and DISABLE write `rxHostEnabled` once
configured, and the invariants read it only before that. -/
structure SameRx (s s' : State) : Prop where
  slots : s'.rxSlots = s.rxSlots
  head : s'.head = s.head
  tail : s'.tail = s.tail
  nBits : s'.nBits = s.nBits
  readBits : s'.readBits = s.readBits
  ackArmed : s'.ackArmed = s.ackArmed
  rxStats : s'.rxStats = s.rxStats
  hostEnabled : s.configured = false → s'.rxHostEnabled = s.rxHostEnabled

/-- The two states agree on what the transmit side's invariant speaks of, the send under way apart. -/
structure SameTx (s s' : State) : Prop where
  slots : s'.txSlots = s.txSlots
  head : s'.txHead = s.txHead
  tail : s'.txTail = s.txTail
  suspended : s'.rxTxSuspended = s.rxTxSuspended
  timer : s'.txTimerEnabled = s.txTimerEnabled
  pin : s'.txPinLevel = s.txPinLevel

/-- The operation concerns the receive side only. -/
structure RxOnly (s s' : State) : Prop extends SameBuild s s', SameTx s s' where
  send : s'.send = s.send

/-- The operation concerns the transmit side only. -/
structure TxOnly (s s' : State) : Prop extends SameBuild s s', SameRx s s'

theorem SameBuild.trans {s u s' : State} (h : SameBuild s u) (k : SameBuild u s') : SameBuild s s' where
  params := k.params.trans h.params
  configured := k.configured.trans h.configured
  q := k.q.trans h.q
  rxPin := k.rxPin.trans h.rxPin
  txPin := k.txPin.trans h.txPin
  rxLength := k.rxLength.trans h.rxLength
  txLength := k.txLength.trans h.txLength

theorem SameTx.trans {s u s' : State} (h : SameTx s u) (k : SameTx u s') : SameTx s s' where
  slots := k.slots.trans h.slots
  head := k.head.trans h.head
  tail := k.tail.trans h.tail
  suspended := k.suspended.trans h.suspended
  timer := k.timer.trans h.timer
  pin := k.pin.trans h.pin

theorem RxOnly.trans {s u s' : State} (h : RxOnly s u) (k : RxOnly u s') : RxOnly s s' where
  toSameBuild := h.toSameBuild.trans k.toSameBuild
  toSameTx := h.toSameTx.trans k.toSameTx
  send := k.send.trans h.send

theorem RxOnly.refl (s : State) : RxOnly s s := 
  ⟨⟨rfl, rfl, rfl, rfl, rfl, rfl, rfl⟩, ⟨rfl, rfl, rfl, rfl, rfl, rfl⟩, rfl⟩

theorem TxOnly.refl (s : State) : TxOnly s s :=
  ⟨⟨rfl, rfl, rfl, rfl, rfl, rfl, rfl⟩, ⟨rfl, rfl, rfl, rfl, rfl, rfl, rfl, fun _ => rfl⟩⟩

theorem TxOnly.trans {s u s' : State} (h : TxOnly s u) (k : TxOnly u s') : TxOnly s s' where
  toSameBuild := h.toSameBuild.trans k.toSameBuild
  slots := k.slots.trans h.slots
  head := k.head.trans h.head
  tail := k.tail.trans h.tail
  nBits := k.nBits.trans h.nBits
  readBits := k.readBits.trans h.readBits
  ackArmed := k.ackArmed.trans h.ackArmed
  rxStats := k.rxStats.trans h.rxStats
  hostEnabled hc := (k.hostEnabled (h.configured.trans hc)).trans (h.hostEnabled hc)

/-! ### The receive engine leaves the transmit side alone -/

section
variable (s : State)

theorem rxOnly_putRx (i : Nat) (slot : RxSlot) : RxOnly s (s.putRx i slot) :=
  { RxOnly.refl s with rxLength := by simp }

theorem rxOnly_cancelTimer : RxOnly s (cancelTimer s) := { RxOnly.refl s with }

theorem rxOnly_moveHead : RxOnly s (moveHead s) := { RxOnly.refl s with }

theorem rxOnly_noteQueued : RxOnly s s.noteQueued := { RxOnly.refl s with }

theorem rxOnly_overwriteHead : RxOnly s (overwriteHead s) := { RxOnly.refl s with rxLength := by simp }

theorem rxOnly_dropFrame : RxOnly s (dropFrame s) := { RxOnly.refl s with rxLength := by simp }

theorem rxOnly_noteCompleted : RxOnly s s.noteCompleted := { RxOnly.refl s with }

theorem rxOnly_resetDecoder : RxOnly s s.resetDecoder := { RxOnly.refl s with }

theorem rxOnly_completedState (result : RxResult) (ms : Word) (slot : RxSlot) :
    RxOnly s (completedState result ms slot s) :=
  (((rxOnly_noteCompleted s).trans (rxOnly_cancelTimer _)).trans (rxOnly_resetDecoder _)).trans (rxOnly_putRx _ _ _)

theorem rxOnly_endSearch (slot : RxSlot) : RxOnly s (endSearch slot s) := { RxOnly.refl s with rxLength := by simp }

theorem rxOnly_enterWaitAck (now : Word) (slot : RxSlot) : RxOnly s (enterWaitAck now slot s) :=
  { RxOnly.refl s with rxLength := by simp }

theorem rxOnly_appendRun (v : Bit) (n : Nat) (jitter : Int) : RxOnly s (appendRun v n jitter s) :=
  { RxOnly.refl s with }

theorem rxOnly_dropGroup : RxOnly s (dropGroup s) := { RxOnly.refl s with }

theorem rxOnly_edgePrologue (level : Bit) (now : Word) : RxOnly s (edgePrologue level now s) := { RxOnly.refl s with }

theorem rxOnly_takeFrame : RxOnly s (takeFrame s) := { RxOnly.refl s with rxLength := by simp }

theorem rxOnly_answer (r : Result) : RxOnly s (s.answer r) := { RxOnly.refl s with }

theorem rxOnly_clearHead (slot : RxSlot) : RxOnly s (clearHead slot s) := by
  unfold clearHead
  split
  · exact .refl s
  · exact rxOnly_overwriteHead s

theorem rxOnly_sofGroup (g : Group) (slot : RxSlot) : RxOnly s (sofGroup g slot s) := by
  rcases sofGroup_cases g slot s with ⟨-, h⟩ | ⟨-, h⟩ <;> rw [h]
  · exact rxOnly_putRx s _ _
  · exact rxOnly_endSearch s slot

theorem rxOnly_vacantEdge (level : Bit) (slot : RxSlot) : RxOnly s (vacantEdge level slot s) := by
  unfold vacantEdge
  split
  · exact .refl s
  · exact { RxOnly.refl s with rxLength := by simp }

end

theorem complete_rxOnly {result : RxResult} {ms : Word} {slot : RxSlot} {s s' : State}
    (h : complete result ms slot s = .next s') : RxOnly s s' := by
  have hdone := rxOnly_completedState s result ms slot
  rcases complete_next h with ⟨-, rfl⟩ | ⟨-, h⟩
  · exact hdone.trans (rxOnly_dropFrame _)
  · obtain ⟨next, -, rfl⟩ := advanceHead_next h
    exact ((hdone.trans (rxOnly_moveHead _)).trans (rxOnly_clearHead _ next)).trans (rxOnly_noteQueued _)

theorem loadGroup_rxOnly {g : Group} {ts : Stamp} {slot : RxSlot} {s s' : State}
    (h : loadGroup g ts slot s = .next s') : RxOnly s s' := by
  rcases loadGroup_next h with ⟨-, h⟩ | ⟨-, -, -, rfl⟩ | ⟨-, -, rfl⟩
  · exact complete_rxOnly h
  · exact rxOnly_enterWaitAck s _ _
  · exact rxOnly_putRx s _ _

theorem takeGroup_rxOnly {ts : Stamp} {slot : RxSlot} {s s' : State} (h : takeGroup ts slot s = .next s') :
    RxOnly s s' := by
  rcases takeGroup_next h with ⟨-, rfl⟩ | ⟨-, h⟩
  · exact (rxOnly_dropGroup s).trans (rxOnly_sofGroup _ _ _)
  · exact (rxOnly_dropGroup s).trans (loadGroup_rxOnly h)

theorem acceptRun_rxOnly {v : Bit} {r : BitCount} {ts : Stamp} {slot : RxSlot} {s s' : State}
    (h : acceptRun v r ts slot s = .next s') : RxOnly s s' := by
  rcases acceptRun_next h with ⟨-, h⟩ | ⟨-, rfl⟩
  · exact (rxOnly_appendRun s _ _ _).trans (takeGroup_rxOnly h)
  · exact (rxOnly_appendRun s _ _ _).trans (rxOnly_putRx _ _ _)

theorem runStep_rxOnly {level : Bit} {c : Word} {ts : Stamp} {slot : RxSlot} {s s' : State}
    (h : runStep level c ts slot s = .next s') : RxOnly s s' := by
  rcases runStep_next h with ⟨-, -, rfl⟩ | ⟨-, -, h⟩ | ⟨-, h⟩
  · exact rxOnly_endSearch s slot
  · exact complete_rxOnly h
  · exact acceptRun_rxOnly h

theorem ackEdge_rxOnly {level : Bit} {c : Word} {ts : Stamp} {slot : RxSlot} {s s' : State}
    (h : ackEdge level c ts slot s = .next s') : RxOnly s s' := by
  rcases ackEdge_next h with ⟨-, h⟩ | ⟨-, h⟩
  · exact (rxOnly_cancelTimer s).trans (complete_rxOnly h)
  · exact (rxOnly_cancelTimer s).trans (runStep_rxOnly h)

theorem edgeHandler_rxOnly {level : Bit} {ts : Stamp} {s s' : State} (h : edgeHandler level ts s = .next s') :
    RxOnly s s' := by
  have hp := rxOnly_edgePrologue s level ts.now
  obtain ⟨slot, -, ⟨-, rfl⟩ | ⟨-, h⟩ | ⟨-, h⟩⟩ := edgeHandler_next h
  · exact hp.trans (rxOnly_vacantEdge _ level slot)
  · exact hp.trans (runStep_rxOnly h)
  · exact hp.trans (ackEdge_rxOnly h)

theorem ackTimeoutHandler_rxOnly {ts : Stamp} {s s' : State} (h : ackTimeoutHandler ts s = .next s') : RxOnly s s' := by
  obtain ⟨slot, -, ⟨-, h⟩ | ⟨-, rfl⟩⟩ := ackTimeoutHandler_next h
  · exact (rxOnly_cancelTimer s).trans (complete_rxOnly h)
  · exact rxOnly_cancelTimer s

/-! ### The transmit engine leaves the receive side alone -/

section
variable (s : State)

theorem txOnly_endSend (ok : Bit) : TxOnly s (s.endSend ok) := { TxOnly.refl s with }

theorem txOnly_waitSend (h : Send) (ms : Word) : TxOnly s (s.waitSend h ms) := { TxOnly.refl s with }

theorem txOnly_sendQueued (h : Send) (i : Nat) (ms : Word) : TxOnly s (s.sendQueued h i ms) := { TxOnly.refl s with }

theorem txOnly_noteTxDropped : TxOnly s s.noteTxDropped := { TxOnly.refl s with }

theorem txOnly_noteBitError : TxOnly s s.noteBitError := { TxOnly.refl s with }

theorem txOnly_answer (r : Result) : TxOnly s (s.answer r) := { TxOnly.refl s with }

theorem txOnly_queueFrame (iden : BitVec 12) (flags : BitVec 4) (data : List Byte) (len : Byte) :
    TxOnly s (queueFrame iden flags data len s) := { TxOnly.refl s with txLength := by simp }

theorem txOnly_startFrame (t : TxSlot) : TxOnly s (startFrame t s) := { TxOnly.refl s with txLength := by simp }

theorem txOnly_deferFrame (t : TxSlot) : TxOnly s (deferFrame t s) := { TxOnly.refl s with txLength := by simp }

theorem txOnly_collide (t : TxSlot) (k : Nat) (now : Word) : TxOnly s (collide t k now s) :=
  { TxOnly.refl s with txLength := by simp }

theorem txOnly_nextBit (t : TxSlot) : TxOnly s (nextBit t s) := { TxOnly.refl s with txLength := by simp }

theorem txOnly_sentState (t : TxSlot) (now : Word) : TxOnly s (sentState t now s) :=
  { TxOnly.refl s with txLength := by simp }

end

/-- An accepted frame is queued at `txHead`, in a configured block (45_tx.md R302). -/
theorem enqueue_queued {iden : BitVec 12} {flags : BitVec 4} {data : List Byte} {len : Byte} {s u : State}
    (h : enqueue iden flags data len s = .queued u) :
    s.configured = true ∧ badLength data len = false ∧ (∃ t, s.txSlots[s.txHead]? = some t ∧ t.state = .done) ∧
      u = queueFrame iden flags data len s := by
  rcases enqueue_cases iden flags data len s with ⟨-, e⟩ | ⟨hc, hb, ⟨-, e⟩ | ⟨t, ht, ⟨hd, e⟩ | ⟨-, e⟩⟩⟩ <;>
    rw [e] at h
  · cases h
  · cases h
  · exact ⟨hc, hb, ⟨t, ht, hd⟩, (Enqueued.queued.inj h).symm⟩
  · cases h

theorem sendPass_txOnly {h : Send} {ms : Word} {s s' : State} (hp : sendPass h ms s = .next s') : TxOnly s s' := by
  rcases sendPass_next hp with ⟨-, hp⟩ | ⟨-, hp⟩
  · rcases waitSlotPass_next hp with ⟨u, hu, ⟨-, rfl⟩ | ⟨-, rfl⟩⟩ | ⟨-, ⟨-, rfl⟩ | ⟨-, rfl⟩⟩
    · obtain ⟨-, -, -, rfl⟩ := enqueue_queued hu
      exact (txOnly_queueFrame s _ _ _ _).trans (txOnly_endSend _ _)
    · obtain ⟨-, -, -, rfl⟩ := enqueue_queued hu
      exact (txOnly_queueFrame s _ _ _ _).trans (txOnly_sendQueued _ _ _ _)
    · exact (txOnly_noteTxDropped s).trans (txOnly_endSend _ _)
    · exact txOnly_waitSend s h ms
  · obtain ⟨t, -, ⟨-, rfl⟩ | ⟨-, -, rfl⟩ | ⟨-, -, rfl⟩⟩ := waitDonePass_next hp
    · exact txOnly_endSend s true
    · exact txOnly_endSend s false
    · exact txOnly_waitSend s h ms

theorem finishFrame_txOnly {t : TxSlot} {now : Word} {s s' : State} (h : finishFrame t now s = .next s') :
    TxOnly s s' := by
  obtain ⟨u, -, rfl⟩ := finishFrame_next h
  exact { txOnly_sentState s t now with }

theorem advanceBit_txOnly {t : TxSlot} {now : Word} {s s' : State} (h : advanceBit t now s = .next s') : TxOnly s s' := by
  rcases advanceBit_next h with ⟨-, h⟩ | ⟨-, rfl⟩
  · exact finishFrame_txOnly h
  · exact txOnly_nextBit s t

theorem tickHandler_txOnly {sample : Bit} {ts : Stamp} {s s' : State} (h : tickHandler sample ts s = .next s') :
    TxOnly s s' := by
  obtain ⟨t, -, ⟨-, rfl⟩ | ⟨-, -, rfl⟩ | ⟨-, -, rfl⟩ | ⟨-, h⟩⟩ := tickHandler_next h
  · exact { TxOnly.refl s with }
  · exact txOnly_startFrame s t
  · exact txOnly_deferFrame s t
  · rcases sendTick_next h with ⟨-, -, -, rfl⟩ | ⟨-, -, -, h⟩ | ⟨-, h⟩
    · exact txOnly_collide s t _ _
    · exact (txOnly_noteBitError s).trans (advanceBit_txOnly h)
    · exact advanceBit_txOnly h

/-! ### The effects of an operation -/

/-- Everything one operation, or one pass of the host, can do when it answers a next state. -/
inductive Effect (s s' : State) : Prop
  /-- neither side of the block changes: a query, a codec, an enable, a refusal, or an event that is not delivered -/
  | quiet (rx : RxOnly s s') (tx : TxOnly s s')
  /-- SETUP (44_rx_queue.md R260) -/
  | setup (rxPin txPin capacity now : Word) (r : Result) (off : s.configured = false)
      (capacity_ok : capacityOk s.params capacity = true) (eq : s' = (setupState rxPin txPin capacity now s).answer r)
  /-- RECEIVE of the frame at `tail` (R265) -/
  | receive (slot : RxSlot) (r : Result) (on : s.configured = true) (at_tail : s.rxSlots[s.tail]? = some slot)
      (done : slot.state = .done) (eq : s' = (takeFrame s).answer r)
  /-- EV_EDGE, delivered (42_rx_decoder.md R180) -/
  | edge (level : Bit) (ts : Stamp) (enabled : edgeEnabled s = true) (run : edgeHandler level ts s = .next s')
  /-- EV_ACK_TIMEOUT, delivered (R194) -/
  | timeout (ts : Stamp) (armed : s.ackArmed = true) (run : ackTimeoutHandler ts s = .next s')
  /-- TX_ENQUEUE of an accepted frame (45_tx.md R302) -/
  | enqueue (iden : BitVec 12) (flags : BitVec 4) (data : List Byte) (len : Byte) (u : State) (r : Result)
      (run : enqueue iden flags data len s = .queued u) (eq : s' = u.answer r)
  /-- a blocking send that cannot succeed ends at once (R303) -/
  | refusedSend (eq : s' = s.endSend false)
  /-- the first pass of a blocking send (R303, R304) -/
  | firstPass (h : Send) (ms : Word) (on : s.configured = true) (length_ok : badLength h.data h.len = false)
      (slot : h.sendSlot = 0) (run : sendPass h ms s = .next s')
  /-- a later pass of the blocking send under way (R303, R304) -/
  | laterPass (h : Send) (ms : Word) (under_way : s.send = some h) (run : sendPass h ms s = .next s')
  /-- EV_TX_TICK, delivered (R305) -/
  | tick (sample : Bit) (ts : Stamp) (enabled : tickEnabled s = true) (run : tickHandler sample ts s = .next s')

theorem Effect.refl (s : State) : Effect s s :=
  .quiet (.refl s) (.refl s)

theorem Effect.answer (s : State) (r : Result) : Effect s (s.answer r) :=
  .quiet (rxOnly_answer s r) (txOnly_answer s r)

section
variable {s s' : State}

theorem execSetup_effect {rxPin txPin capacity : Word} {ts : Stamp}
    (h : execSetup rxPin txPin capacity ts s = .next s') :
    Effect s s' := by
  rcases execSetup_cases rxPin txPin capacity ts s with ⟨-, e⟩ | ⟨off, hq, e⟩ <;> rw [e] at h <;> cases h
  · exact .answer s _
  · exact .setup rxPin txPin capacity ts.now _ off hq rfl

theorem execEnable_effect (h : execEnable s = .next s') : Effect s s' := by
  unfold execEnable at h
  split at h <;> cases h
  · exact .quiet { RxOnly.refl s with } { TxOnly.refl s with hostEnabled := by simp_all }
  · exact .answer s _

theorem execDisable_effect (h : execDisable s = .next s') : Effect s s' := by
  unfold execDisable at h
  split at h <;> cases h
  · exact .quiet { RxOnly.refl s with } { TxOnly.refl s with hostEnabled := by simp_all }
  · exact .answer s _

theorem execSetDropPolicy_effect {threshold : Word} {essential : Pred}
    (h : execSetDropPolicy threshold essential s = .next s') : Effect s s' := by
  unfold execSetDropPolicy at h
  split at h <;> cases h
  · exact .quiet { RxOnly.refl s with } { TxOnly.refl s with }
  · exact .answer s _

theorem execAvailable_effect (h : execAvailable s = .next s') : Effect s s' := by
  unfold execAvailable at h
  split at h
  · split at h <;> cases h
    exact .answer s _
  · cases h
    exact .answer s _

theorem execReceive_effect (h : execReceive s = .next s') : Effect s s' := by
  rcases execReceive_next h with ⟨slot, on, ht, hd, rfl⟩ | ⟨-, rfl⟩
  · exact .receive slot _ on ht hd rfl
  · exact .answer s _

theorem execRepair_effect {f : Frame} {interest : Option Pred} (h : execRepair f interest s = .next s') :
    Effect s s' := by
  have corrupt_rx : RxOnly s s.noteCorrupt := { RxOnly.refl s with }
  have corrupt_tx : TxOnly s s.noteCorrupt := { TxOnly.refl s with }
  have repaired_rx (m : RepairMethod) : RxOnly s (s.noteCorrupt.noteRepaired m) := { corrupt_rx with }
  have repaired_tx (m : RepairMethod) : TxOnly s (s.noteCorrupt.noteRepaired m) := { corrupt_tx with }
  unfold execRepair at h
  cases hc : repairCounted s f interest <;> simp only [hc] at h <;> split at h
  · cases h; exact .answer s _
  · split at h <;> cases h <;> exact .answer s _
  · cases h; exact .answer s _
  · split at h <;> cases h
    · exact .quiet (corrupt_rx.trans (rxOnly_answer _ _)) (corrupt_tx.trans (txOnly_answer _ _))
    · exact .quiet ((repaired_rx _).trans (rxOnly_answer _ _)) ((repaired_tx _).trans (txOnly_answer _ _))

theorem execPreparePacket_effect {iden : BitVec 12} {flags : BitVec 4} {data : List Byte} {len : Byte}
    (h : execPreparePacket iden flags data len s = .next s') : Effect s s' := by
  unfold execPreparePacket at h
  split at h <;> cases h <;> exact .answer s _

theorem startSend_effect {kind : SendKind} {iden : BitVec 12} {flags : BitVec 4} {data : List Byte} {len : Byte}
    {timeoutMs : Word} {ts : Stamp} (h : startSend kind iden flags data len timeoutMs ts s = .next s') : Effect s s' := by
  rcases startSend_next h with ⟨-, rfl⟩ | ⟨on, hb, h⟩
  · exact .refusedSend rfl
  · exact .firstPass (newSend kind iden flags data len timeoutMs ts.ms) ts.ms on hb rfl h

theorem execTxEnqueue_effect {iden : BitVec 12} {flags : BitVec 4} {data : List Byte} {len : Byte}
    (h : execTxEnqueue iden flags data len s = .next s') : Effect s s' := by
  rcases execTxEnqueue_next h with ⟨u, hu, rfl⟩ | ⟨-, rfl⟩
  · exact .enqueue iden flags data len u _ hu rfl
  · exact .answer s _

theorem execEvEdge_effect {level : Bit} {ts : Stamp} (h : execEvEdge level ts s = .next s') : Effect s s' := by
  rcases deliver_next h with ⟨he, h⟩ | ⟨-, rfl⟩
  · exact .edge level ts he h
  · exact .refl _

theorem execEvAckTimeout_effect {ts : Stamp} (h : execEvAckTimeout ts s = .next s') : Effect s s' := by
  rcases deliver_next h with ⟨hd, h⟩ | ⟨-, rfl⟩
  · exact .timeout ts ((ackDue_iff s ts.now).mp hd).1 h
  · exact .refl _

theorem execEvTxTick_effect {sample : Bit} {ts : Stamp} (h : execEvTxTick sample ts s = .next s') : Effect s s' := by
  rcases deliver_next h with ⟨he, h⟩ | ⟨-, rfl⟩
  · exact .tick sample ts he h
  · exact .refl _

/-- Every operation has one of the effects. -/
theorem exec_effect {i : Instr} (h : exec i s = .next s') : Effect s s' := by
  cases i with
  | setup => exact execSetup_effect h
  | enable => exact execEnable_effect h
  | disable => exact execDisable_effect h
  | available => exact execAvailable_effect h
  | receive => exact execReceive_effect h
  | setDropPolicy => exact execSetDropPolicy_effect h
  | sendPacket => exact startSend_effect h
  | syncSendPacket => exact startSend_effect h
  | repair => exact execRepair_effect h
  | preparePacket => exact execPreparePacket_effect h
  | txEnqueue => exact execTxEnqueue_effect h
  | evEdge => exact execEvEdge_effect h
  | evAckTimeout => exact execEvAckTimeout_effect h
  | evTxTick => exact execEvTxTick_effect h
  | getCount | queueSize | getNQueued | getMaxQueued | dumpStats => cases h; exact .answer s _
  | crc | checkCrc | frameIden | frameFlags | frameDataLen | frameData => cases h; exact .answer s _
  | manchEncode | manchDecode | eodTest | sofMatch | bitTimeDecode | stuffFrame => cases h; exact .answer s _

theorem timeoutFirst_armed {i : Instr} (h : timeoutFirst i s = true) : s.ackArmed = true := by
  by_contra hc
  simp [timeoutFirst_of_disarmed (Bool.eq_false_of_not_eq_true hc)] at h

/-- Every step has one of the effects, on the state with the record that it performs taken off the input. -/
theorem step_effect (h : step s = .next s') : ∃ rest, Effect { s with input := rest } s' := by
  rcases step_next h with h | ⟨i, rest, -, -, ⟨ht, h⟩ | ⟨-, h⟩⟩
  · refine ⟨s.input, ?_⟩
    rcases hostPoll_next h with ⟨-, rfl⟩ | ⟨p, hp, h⟩
    · exact .refl _
    · exact .laterPass p p.nextPollMs hp h
  · exact ⟨s.input, .timeout _ (timeoutFirst_armed ht) h⟩
  · exact ⟨rest, exec_effect h⟩

/-- Every effect but SETUP keeps the build, the configuration and the pool sizes. -/
theorem Effect.sameBuild (e : Effect s s') (on : s.configured = true) : SameBuild s s' := by
  cases e with
  | quiet rx => exact rx.toSameBuild
  | setup _ _ _ _ _ off => simp [on] at off
  | receive slot r on ht hd e => subst e; exact ((rxOnly_takeFrame s).trans (rxOnly_answer _ r)).toSameBuild
  | edge _ _ _ run => exact (edgeHandler_rxOnly run).toSameBuild
  | timeout _ _ run => exact (ackTimeoutHandler_rxOnly run).toSameBuild
  | enqueue iden flags data len u r run e =>
    obtain ⟨-, -, -, rfl⟩ := enqueue_queued run
    subst e
    exact ((txOnly_queueFrame s iden flags data len).trans (txOnly_answer _ r)).toSameBuild
  | refusedSend e => subst e; exact (txOnly_endSend s false).toSameBuild
  | firstPass _ _ _ _ _ run => exact (sendPass_txOnly run).toSameBuild
  | laterPass _ _ _ run => exact (sendPass_txOnly run).toSameBuild
  | tick _ _ _ run => exact (tickHandler_txOnly run).toSameBuild

end

/-- Settles O9: of all effects only SETUP writes the configuration, and a configured block refuses it. -/
theorem configurationIsPermanent : Obligations.ConfigurationIsPermanent := by
  intro s s' h on
  obtain ⟨rest, e⟩ := step_effect h
  have b := e.sameBuild on
  exact ⟨b.configured.trans on, b.q, b.rxPin, b.txPin, b.params, b.rxLength, b.txLength⟩

end Sys2Proof.Machine
end

section
/-! SUPPORT. Queues in a ring of slots: the distance of a slot from the first one in use, and what queueing and taking a
frame do to a pool whose slots in use are the first `c` from `tail` on. Both pools of the block are such queues. -/

namespace Sys2Proof.Machine

/-- The distance of slot `i` from slot `tail` in a ring of `n` slots. -/
def ringOffset (n tail i : Nat) : Nat := (i + n - tail) % n

theorem rxOffset_eq_ringOffset (s : State) (i : Nat) : rxOffset s i = ringOffset s.q.toNat s.tail i := rfl

theorem txOffset_eq_ringOffset (s : State) (i : Nat) : txOffset s i = ringOffset s.params.txQ s.txTail i := rfl

theorem ring_add_eq {n i c : Nat} (hi : i < n) (hc : c ≤ n) : (i + c) % n = if i + c < n then i + c else i + c - n := by
  split
  · exact Nat.mod_eq_of_lt (by assumption)
  · rw [Nat.mod_eq_sub_mod (by omega), Nat.mod_eq_of_lt (by omega)]

theorem ringOffset_eq {n tail i : Nat} (ht : tail < n) (hi : i < n) :
    ringOffset n tail i = if tail ≤ i then i - tail else i + n - tail := by
  unfold ringOffset
  split
  · rw [Nat.mod_eq_sub_mod (by omega), Nat.mod_eq_of_lt (by omega)]
    omega
  · exact Nat.mod_eq_of_lt (by omega)

theorem ringOffset_lt {n tail i : Nat} (ht : tail < n) : ringOffset n tail i < n := Nat.mod_lt _ (by omega)

theorem ringOffset_self {n tail : Nat} (ht : tail < n) : ringOffset n tail tail = 0 := by
  simp [ringOffset_eq ht ht]

/-- The slot `c` places after `tail` is at distance `c`, and no other is. -/
theorem ringOffset_eq_iff {n tail i c : Nat} (ht : tail < n) (hi : i < n) (hc : c < n) :
    ringOffset n tail i = c ↔ i = (tail + c) % n := by
  rw [ringOffset_eq ht hi, ring_add_eq ht hc.le]
  split <;> split <;> omega

/-- When `tail` moves on by one, the slot it leaves becomes the last. -/
theorem ringOffset_next_self {n tail : Nat} (ht : tail < n) : ringOffset n ((tail + 1) % n) tail + 1 = n := by
  have hnext := ring_add_eq ht (show 1 ≤ n by omega)
  rw [ringOffset_eq (Nat.mod_lt _ (by omega)) ht, hnext]
  split <;> split <;> omega

/-- When `tail` moves on by one, every other slot comes one nearer. -/
theorem ringOffset_next {n tail i : Nat} (ht : tail < n) (hi : i < n) (hne : i ≠ tail) :
    ringOffset n ((tail + 1) % n) i + 1 = ringOffset n tail i := by
  have hnext := ring_add_eq ht (show 1 ≤ n by omega)
  rw [ringOffset_eq (Nat.mod_lt _ (by omega)) hi, ringOffset_eq ht hi, hnext]
  split <;> split <;> split <;> omega

theorem ring_next_ne {n i : Nat} (hn : 2 ≤ n) (hi : i < n) : (i + 1) % n ≠ i := by
  rw [ring_add_eq hi (by omega)]
  split <;> omega

/-- An entry of a list with one entry written: the one written, or one of the others. -/
theorem getElem?_set_cases {α : Type} {l : List α} {k i : Nat} {x y : α} (h : (l.set k x)[i]? = some y) :
    (i = k ∧ y = x ∧ k < l.length) ∨ (i ≠ k ∧ l[i]? = some y) := by
  rw [List.getElem?_set] at h
  split at h
  · next e =>
    split at h
    · next hk => exact .inl ⟨e.symm, (Option.some.inj h).symm, hk⟩
    · cases h
  · next e => exact .inr ⟨Ne.symm e, h⟩

theorem set_eq_self_of_getElem? {α : Type} {l : List α} {k : Nat} {x : α} (h : l[k]? = some x) : l.set k x = l := by
  obtain ⟨hk, rfl⟩ := List.getElem?_eq_some_iff.mp h
  exact List.set_getElem_self hk

/-- The slots of `l` with `P` are the `c` slots from `tail` on, and `head` follows them. -/
structure RingQueue {α : Type} (P : α → Prop) (l : List α) (tail head c : Nat) : Prop where
  tail_lt : tail < l.length
  count_le : c ≤ l.length
  head_eq : head = (tail + c) % l.length
  used_iff : ∀ i x, l[i]? = some x → (P x ↔ ringOffset l.length tail i < c)

namespace RingQueue

variable {α : Type} {P : α → Prop} {l : List α} {tail head c : Nat}

theorem head_lt (q : RingQueue P l tail head c) : head < l.length := by
  rw [q.head_eq]
  exact Nat.mod_lt _ (Nat.zero_lt_of_lt q.tail_lt)

/-- The slot at `tail` is in use iff any slot is. -/
theorem used_tail_iff (q : RingQueue P l tail head c) {x : α} (hx : l[tail]? = some x) : P x ↔ 0 < c := by
  rw [q.used_iff tail x hx, ringOffset_self q.tail_lt]

/-- When the slot at `head` is free the queue is not full. -/
theorem count_lt (q : RingQueue P l tail head c) {x : α} (hx : l[head]? = some x) (hfree : ¬P x) : c < l.length := by
  by_contra hc
  exact hfree ((q.used_iff head x hx).mpr (lt_of_lt_of_le (ringOffset_lt q.tail_lt) (Nat.le_of_not_lt hc)))

/-- A slot written so that it stays in use, or stays free, leaves the queue as it was. -/
theorem set (q : RingQueue P l tail head c) {k : Nat} {x : α} (hx : ∀ y, l[k]? = some y → (P x ↔ P y)) :
    RingQueue P (l.set k x) tail head c where
  tail_lt := by simpa using q.tail_lt
  count_le := by simpa using q.count_le
  head_eq := by simpa using q.head_eq
  used_iff i y hy := by
    rw [List.length_set]
    rcases getElem?_set_cases hy with ⟨rfl, rfl, hk⟩ | ⟨-, hy⟩
    · exact (hx _ (List.getElem?_eq_getElem hk)).trans (q.used_iff i _ (List.getElem?_eq_getElem hk))
    · exact q.used_iff i y hy

/-- Queueing at `head`. -/
theorem push (q : RingQueue P l tail head c) (hc : c < l.length) {x : α} (hx : P x) :
    RingQueue P (l.set head x) tail ((head + 1) % l.length) (c + 1) where
  tail_lt := by simpa using q.tail_lt
  count_le := by simpa using hc
  head_eq := by rw [q.head_eq, List.length_set, Nat.mod_add_mod, Nat.add_assoc]
  used_iff i y hy := by
    have hi : i < l.length := by simpa using (List.getElem?_eq_some_iff.mp hy).1
    have at_head := ringOffset_eq_iff q.tail_lt hi hc
    rw [← q.head_eq] at at_head
    rw [List.length_set]
    rcases getElem?_set_cases hy with ⟨rfl, rfl, -⟩ | ⟨h, hy⟩
    · simp [hx, at_head.mpr rfl]
    · have : ringOffset l.length tail i ≠ c := fun e => h (at_head.mp e)
      rw [q.used_iff i y hy]
      omega

/-- Taking the slot at `tail`. -/
theorem pop (q : RingQueue P l tail head c) (hc : 0 < c) {x : α} (hx : ¬P x) :
    RingQueue P (l.set tail x) ((tail + 1) % l.length) head (c - 1) where
  tail_lt := by simpa using Nat.mod_lt _ (Nat.zero_lt_of_lt q.tail_lt)
  count_le := by simpa using (Nat.sub_le c 1).trans q.count_le
  head_eq := by
    rw [q.head_eq, List.length_set, Nat.mod_add_mod, Nat.add_assoc, Nat.add_sub_cancel' hc]
  used_iff i y hy := by
    have hi : i < l.length := by simpa using (List.getElem?_eq_some_iff.mp hy).1
    have hcl := q.count_le
    rw [List.length_set]
    rcases getElem?_set_cases hy with ⟨rfl, rfl, -⟩ | ⟨hne, hy⟩
    · have hlast := ringOffset_next_self q.tail_lt
      simp only [hx, false_iff]
      omega
    · have hnear := ringOffset_next q.tail_lt hi hne
      rw [q.used_iff i y hy]
      omega

end RingQueue

end Sys2Proof.Machine
end

section
/-! SUPPORT. The receive side's invariant: what an edge or an ACK timeout can make of the receive pool (`RxMove`), and with
it all that an operation can do to the receive side (`RxEffect`). -/

namespace Sys2Proof.Machine

open Sys2Proof.Config

/-! ### Slots -/

theorem vacantSlot_rxSlotOk : RxSlotOk vacantSlot where
  size_le := by decide
  bytes_wf := rfl
  of_vacant _ := rfl
  of_searching h := by cases h
  of_loaded h := absurd rfl h
  of_waiting h := by cases h
  of_open _ := ⟨rfl, rfl, rfl, rfl⟩
  of_ok h := by cases h
  of_maxPacket h := by cases h
  uncertain_lt i h := by cases h

/-- The slot of a search (42_rx_decoder.md R183). -/
def searchSlot : RxSlot := { vacantSlot with state := .searching }

theorem searchSlot_rxSlotOk : RxSlotOk searchSlot where
  size_le := by decide
  bytes_wf := rfl
  of_vacant h := by cases h
  of_searching _ := rfl
  of_loaded _ h := absurd rfl h
  of_waiting h := by cases h
  of_open _ := ⟨rfl, rfl, rfl, rfl⟩
  of_ok h := by cases h
  of_maxPacket h := by cases h
  uncertain_lt i h := by cases h

/-- An open slot that holds a frame: it is in LOADING or WAITING_ACK (10_state.md R38). -/
def Loaded (st : RxState) : Prop := st = .loading ∨ st = .waitingAck

theorem Loaded.ne_vacant {st : RxState} (h : Loaded st) : st ≠ .vacant := by rcases h with rfl | rfl <;> decide

theorem Loaded.ne_searching {st : RxState} (h : Loaded st) : st ≠ .searching := by rcases h with rfl | rfl <;> decide

theorem Loaded.ne_done {st : RxState} (h : Loaded st) : st ≠ .done := by rcases h with rfl | rfl <;> decide

/-- A frame that completes, whatever its ACK field (R196). -/
theorem completedSlot_rxSlotOk {slot : RxSlot} (ok : RxSlotOk slot) (loaded : Loaded slot.state) (a : Ack)
    {result : RxResult} (size_of_ok : result = .ok → minEodSize ≤ slot.size)
    (size_of_max : result = .errorMaxPacket → slot.size = maxFrame) (ms : Word) (s : State) :
    RxSlotOk (completedSlot result ms { slot with ack := a } s) where
  size_le := ok.size_le
  bytes_wf := ok.bytes_wf
  of_vacant h := by cases h
  of_searching h := by cases h
  of_loaded _ _ := ok.of_loaded loaded.ne_vacant loaded.ne_searching
  of_waiting h := by cases h
  of_open h := absurd rfl h
  of_ok _ := size_of_ok
  of_maxPacket _ := size_of_max
  uncertain_lt := ok.uncertain_lt

/-- A slot in LOADING with a byte stored, in LOADING or in WAITING_ACK (R191, R192). -/
theorem storeGroup_rxSlotOk {slot : RxSlot} (ok : RxSlotOk slot) (loading : slot.state = .loading)
    (room : slot.size < maxFrame) (g : Group) {st : RxState} (loaded : Loaded st)
    (long : st = .waitingAck → minEodSize ≤ slot.size + 1) : RxSlotOk { storeGroup g slot with state := st } where
  size_le := room
  bytes_wf := memoryWf_writeByte_end _ ok.bytes_wf
  of_vacant h := absurd h loaded.ne_vacant
  of_searching h := absurd h loaded.ne_searching
  of_loaded _ _ := by
    obtain ⟨hsize, hsof⟩ := ok.of_loaded (by simp [loading]) (by simp [loading])
    refine ⟨Nat.le_add_left 1 slot.size, ?_⟩
    exact (readByte_writeByte_other slot.bytes (decGroup g) (by omega)).trans hsof
  of_waiting := long
  of_open _ := ok.of_open (by simp [loading])
  of_ok h := absurd h loaded.ne_done
  of_maxPacket h := absurd h loaded.ne_done
  uncertain_lt := ok.uncertain_lt

/-- The first group, accepted as SOF (R187). -/
theorem sofSlot_rxSlotOk :
    RxSlotOk { searchSlot with bytes := writeByte searchSlot.bytes 0 sofByte, size := 1, state := .loading } where
  size_le := by decide
  bytes_wf := by decide
  of_vacant h := by cases h
  of_searching h := by cases h
  of_loaded _ _ := by decide
  of_waiting h := by cases h
  of_open _ := ⟨rfl, rfl, rfl, rfl⟩
  of_ok h := by cases h
  of_maxPacket h := by cases h
  uncertain_lt i h := by cases h

/-- An ACK wait that turns out to be more data (R193). -/
theorem reload_rxSlotOk {slot : RxSlot} (ok : RxSlotOk slot) (waiting : slot.state = .waitingAck) :
    RxSlotOk { slot with state := .loading } where
  size_le := ok.size_le
  bytes_wf := ok.bytes_wf
  of_vacant h := by cases h
  of_searching h := by cases h
  of_loaded _ _ := ok.of_loaded (by simp [waiting]) (by simp [waiting])
  of_waiting h := by cases h
  of_open _ := ok.of_open (by simp [waiting])
  of_ok h := by cases h
  of_maxPacket h := by cases h
  uncertain_lt := ok.uncertain_lt

/-- Flagging a bit writes the uncertain index only, with an index of the frame (R189). -/
theorem markUncertain_cases (o n : Nat) (slot : RxSlot) :
    markUncertain o n slot = slot ∨
    ∃ i < 8 * maxFrame, markUncertain o n slot = { slot with uncertain := some i } := by
  unfold markUncertain
  split
  · exact .inl rfl
  · split
    · exact .inl rfl
    · next i _ =>
      split
      · next hi => exact .inr ⟨i, hi, rfl⟩
      · exact .inl rfl

/-- What the correction step makes of a run: no more bits than measured, and in LOADING perhaps a flagged bit (R188,
R189). -/
theorem correctRun_cases {p : Params} (legal : LegalParams p) (v : Bit) (o : Nat) (r : BitCount) (slot : RxSlot) :
    (correctRun p v o r slot).n ≤ r.n ∧
    ((correctRun p v o r slot).slot = slot ∨
      slot.state = .loading ∧
        ∃ i < 8 * maxFrame, (correctRun p v o r slot).slot = { slot with uncertain := some i }) := by
  unfold correctRun
  split
  · exact ⟨le_rfl, .inl rfl⟩
  · next c hc =>
    unfold findCorrection at hc
    have hshort := legal.corrections_shorten c (List.mem_of_find?_eq_some hc)
    have hkey := List.find?_some hc
    simp only [Bool.and_eq_true, decide_eq_true_eq] at hkey
    obtain ⟨-, hmeasured⟩ := hkey
    refine ⟨hmeasured ▸ hshort, ?_⟩
    by_cases hl : slot.state = .loading
    · rcases markUncertain_cases o c.bits slot with h | ⟨i, hi, h⟩
      · exact .inl (by simp [hl, h])
      · exact .inr ⟨hl, i, hi, by simp [hl, h]⟩
    · exact .inl (by simp [hl])

/-! ### The bit accumulator -/

/-- Appending a run leaves the bits above the new length 0 (R184, 10_state.md R35). -/
theorem appendRun_readBits_lt {s : State} (h : s.readBits.toNat < 2 ^ s.nBits) (v : Bit) (n : Nat) (jitter : Int)
    (room : s.nBits + n ≤ 20) :
    (appendRun v n jitter s).readBits.toNat < 2 ^ (s.nBits + n) := by
  have hpow : 2 ^ (s.nBits + n) ≤ 2 ^ 20 := Nat.pow_le_pow_right (by omega) room
  have hn : 2 ^ n ≤ 2 ^ (s.nBits + n) := Nat.pow_le_pow_right (by omega) (by omega)
  simp only [appendRun, BitVec.toNat_or, BitVec.toNat_shiftLeft, Nat.shiftLeft_eq]
  refine Nat.or_lt_two_pow (lt_of_le_of_lt (Nat.mod_le _ _) ?_) ?_
  · rw [Nat.pow_add]
    exact Nat.mul_lt_mul_of_pos_right h (by positivity)
  · have hpos : 0 < 2 ^ n := by positivity
    split
    · rw [BitVec.toNat_ofNat]
      exact lt_of_le_of_lt (Nat.mod_le _ _) (by omega)
    · simp

/-- Taking a group leaves the bits above the new length 0 (R185). -/
theorem dropGroup_readBits_lt (s : State) : (dropGroup s).readBits.toNat < 2 ^ (dropGroup s).nBits := by
  simp only [dropGroup, BitVec.toNat_and, BitVec.toNat_ofNat]
  have hpos : 0 < 2 ^ (s.nBits - 10) := by positivity
  exact lt_of_le_of_lt (Nat.and_le_right.trans (Nat.mod_le _ _)) (by omega)

/-! ### What an edge or a timeout makes of the pool -/

/-- What the decoder's steps read of the pool and leave as it is until they end: the queue, its counters and the drop
policy. -/
structure SameQueue (s u : State) : Prop where
  slots : u.rxSlots = s.rxSlots
  head : u.head = s.head
  tail : u.tail = s.tail
  q : u.q = s.q
  stats : u.rxStats = s.rxStats
  drop : u.dropEnabled = s.dropEnabled

/-- The slot at `head` holds `b`, which is open; nothing else of the pool has moved, and the accumulator and the timer go
with `b`. -/
structure HeadSet (s : State) (b : RxSlot) (s' : State) : Prop where
  slots : s'.rxSlots = s.rxSlots.set s.head b
  head : s'.head = s.head
  tail : s'.tail = s.tail
  ok : RxSlotOk b
  is_open : b.state ≠ .done
  nBits_le : s'.nBits ≤ 9
  readBits_lt : s'.readBits.toNat < 2 ^ s'.nBits
  armed_iff : s'.ackArmed = true ↔ b.state = .waitingAck

/-- The slot at `head` holds the completed frame `b`, and `head` has moved on to a slot that is free, if need be by losing
an unread frame (42_rx_decoder.md R196, R198). -/
structure HeadMoved (s : State) (b : RxSlot) (s' : State) : Prop where
  slots : s'.rxSlots = (s.rxSlots.set s.head b).set ((s.head + 1) % s.q.toNat) vacantSlot
  head : s'.head = (s.head + 1) % s.q.toNat
  tail : s'.tail = s.tail
  ok : RxSlotOk b
  done : b.state = .done
  seqNo : b.seqNo = s.rxStats.rxCount
  rxCount : s'.rxStats.rxCount = s.rxStats.rxCount + 1
  overwritten : ∀ x, s.rxSlots[(s.head + 1) % s.q.toNat]? = some x → x.state = .done →
    s'.rxStats.rxOverwritten = s.rxStats.rxOverwritten + 1
  nBits : s'.nBits = 0
  readBits : s'.readBits = 0
  disarmed : s'.ackArmed = false

/-- The moves of R38 between the open states. -/
def OpenStep : RxState → RxState → Prop
  | .vacant, b => b = .vacant ∨ b = .searching
  | .searching, b => b = .searching ∨ b = .loading ∨ b = .vacant
  | .loading, b => b = .loading ∨ b = .waitingAck
  | .waitingAck, b => b = .waitingAck ∨ b = .loading
  | .done, _ => False

/-- Everything an edge or an ACK timeout can make of the receive pool, the slot at `head` being in state `st`. -/
inductive RxMove (st : RxState) (s s' : State) : Prop
  | kept (b : RxSlot) (set : HeadSet s b s') (move : OpenStep st b.state) (stats : s'.rxStats = s.rxStats)
  | dropped (set : HeadSet s vacantSlot s') (loaded : Loaded st) (policy : s.dropEnabled = true)
      (rxCount : s'.rxStats.rxCount = s.rxStats.rxCount + 1)
  | queued (b : RxSlot) (moved : HeadMoved s b s') (loaded : Loaded st)

/-- A move is one from any state with the same queue. -/
theorem RxMove.of_sameQueue {st : RxState} {s u s' : State} (h : SameQueue s u) (m : RxMove st u s') : RxMove st s s' := by
  obtain ⟨hslots, hhead, htail, hq, hstats, hdrop⟩ := h
  have set_of {b : RxSlot} (set : HeadSet u b s') : HeadSet s b s' :=
    { set with
      slots := by rw [set.slots, hslots, hhead]
      head := set.head.trans hhead
      tail := set.tail.trans htail }
  cases m with
  | kept b set move stats => exact .kept b (set_of set) move (stats.trans hstats)
  | dropped set loaded policy rxCount => exact .dropped (set_of set) loaded (hdrop ▸ policy) (hstats ▸ rxCount)
  | queued b moved loaded =>
    have moved' : HeadMoved s b s' :=
      { moved with
        slots := by rw [moved.slots, hslots, hhead, hq]
        head := by rw [moved.head, hhead, hq]
        tail := moved.tail.trans htail
        seqNo := by rw [moved.seqNo, hstats]
        rxCount := by rw [moved.rxCount, hstats]
        overwritten := by rw [← hslots, ← hhead, ← hq, ← hstats]; exact moved.overwritten }
    exact .queued b moved' loaded

/-- A frame in WAITING_ACK that goes on loading can do what one in LOADING can. -/
theorem RxMove.of_reload {s s' : State} (m : RxMove .loading s s') : RxMove .waitingAck s s' := by
  cases m with
  | kept b set move stats => exact .kept b set move.symm stats
  | dropped set _ policy rxCount => exact .dropped set (.inr rfl) policy rxCount
  | queued b moved _ => exact .queued b moved (.inr rfl)

/-- The pool as the decoder's steps find it: at least two slots, and every slot but the one at `head` VACANT or DONE. -/
structure RxPool (s : State) : Prop where
  length_eq : s.rxSlots.length = s.q.toNat
  q_ge : qMin ≤ s.q.toNat
  head_lt : s.head < s.q.toNat
  slots_ok : ∀ slot ∈ s.rxSlots, RxSlotOk slot
  others_closed : ∀ i slot, i ≠ s.head → s.rxSlots[i]? = some slot → slot.state = .vacant ∨ slot.state = .done

theorem RxOn.pool {s : State} (h : RxOn s) : RxPool s := { h with }

theorem RxPool.of_sameQueue {s u : State} (h : SameQueue s u) (p : RxPool s) : RxPool u where
  length_eq := by rw [h.slots, h.q]; exact p.length_eq
  q_ge := by rw [h.q]; exact p.q_ge
  head_lt := by rw [h.head, h.q]; exact p.head_lt
  slots_ok := by rw [h.slots]; exact p.slots_ok
  others_closed := by rw [h.slots, h.head]; exact p.others_closed

theorem RxPool.next_lt {s : State} (p : RxPool s) : (s.head + 1) % s.q.toNat < s.q.toNat :=
  Nat.mod_lt _ (Nat.zero_lt_of_lt p.head_lt)

theorem RxPool.next_ne {s : State} (p : RxPool s) : (s.head + 1) % s.q.toNat ≠ s.head := ring_next_ne p.q_ge p.head_lt

/-- The slot after `head` is free already, or holds an unread frame. -/
theorem RxPool.next_slot {s : State} (p : RxPool s) {x : RxSlot} (hx : s.rxSlots[(s.head + 1) % s.q.toNat]? = some x) :
    x = vacantSlot ∨ x.state = .done :=
  (p.others_closed _ x p.next_ne hx).imp_left (p.slots_ok x (List.mem_of_getElem? hx)).of_vacant

/-- After a completion that queues the frame, `head` moves on to a free slot (R196, R198). -/
theorem advanceHead_moved {result : RxResult} {ms : Word} {slot : RxSlot} {s s' : State} (p : RxPool s)
    (ok : RxSlotOk (completedSlot result ms slot s)) (h : advanceHead (completedState result ms slot s) = .next s') :
    HeadMoved s (completedSlot result ms slot s) s' := by
  obtain ⟨x, hx, rfl⟩ := advanceHead_next h
  simp only [completedState_rxSlots, completedState_head, completedState_q, List.getElem?_set_ne p.next_ne.symm] at hx
  by_cases hv : x.state = .vacant
  · have hx' : x = vacantSlot := (p.slots_ok x (List.mem_of_getElem? hx)).of_vacant hv
    have kept : ((s.rxSlots.set s.head (completedSlot result ms slot s)).set ((s.head + 1) % s.q.toNat) vacantSlot) =
        s.rxSlots.set s.head (completedSlot result ms slot s) :=
      set_eq_self_of_getElem? (by rw [List.getElem?_set_ne p.next_ne.symm, hx, hx'])
    have cleared (u : State) : clearHead x u = u := by simp [clearHead, hv]
    rw [cleared]
    exact
      { slots := by simp [kept]
        head := by simp
        tail := by simp
        ok := ok
        done := rfl
        seqNo := rfl
        rxCount := by simp [State.noteQueued, State.noteCompleted]
        overwritten := by
          intro y hy hd
          cases hx.symm.trans hy
          simp [hv] at hd
        nBits := by simp
        readBits := by simp
        disarmed := by simp }
  · have cleared (u : State) : clearHead x u = overwriteHead u := by simp [clearHead, hv]
    rw [cleared]
    exact
      { slots := by simp
        head := by simp
        tail := by simp
        ok := ok
        done := rfl
        seqNo := rfl
        rxCount := by simp [State.noteQueued, State.noteOverrun, State.noteCompleted]
        overwritten := by simp [State.noteQueued, State.noteOverrun, State.noteCompleted]
        nBits := by simp
        readBits := by simp
        disarmed := by simp }

/-- Completion drops the frame or queues it (R196 to R198). -/
theorem complete_move {result : RxResult} {ms : Word} {slot : RxSlot} {s s' : State} {st : RxState} (p : RxPool s)
    (loaded : Loaded st) (ok : RxSlotOk (completedSlot result ms slot s)) (h : complete result ms slot s = .next s') :
    RxMove st s s' := by
  rcases complete_next h with ⟨hdrop, rfl⟩ | ⟨-, h⟩
  · refine .dropped ?_ loaded ?_ ?_
    · exact
        { slots := by simp
          head := by simp
          tail := by simp
          ok := vacantSlot_rxSlotOk
          is_open := by decide
          nBits_le := by simp
          readBits_lt := by simp
          armed_iff := by simp [vacantSlot] }
    · simp only [dropTest, Bool.and_eq_true] at hdrop
      obtain ⟨⟨hpolicy, -⟩, -⟩ := hdrop
      simpa using hpolicy
    · simp [State.noteDropped, State.noteCompleted]
  · exact .queued _ (advanceHead_moved p ok h) loaded

/-! ### The decoder's steps -/

/-- What the decoder's steps are run on: a legal build, the timer off, and in hand the slot at `head`, which searches or
loads. -/
structure Decoding (s : State) (slot : RxSlot) : Prop where
  legal : LegalParams s.params
  pool : RxPool s
  ok : RxSlotOk slot
  state : slot.state = .searching ∨ slot.state = .loading
  disarmed : s.ackArmed = false

section
variable {s u s' : State} {slot : RxSlot}

theorem Decoding.of_sameQueue (d : Decoding s slot) (h : SameQueue s u) (params : u.params = s.params)
    (armed : u.ackArmed = s.ackArmed) : Decoding u slot where
  legal := by rw [params]; exact d.legal
  pool := d.pool.of_sameQueue h
  ok := d.ok
  state := d.state
  disarmed := armed.trans d.disarmed

theorem Decoding.searching (d : Decoding s slot) (h : slot.state = .searching) : slot = searchSlot :=
  d.ok.of_searching h

/-- A search that ends leaves a reinitialised slot (R186, R187). -/
theorem endSearch_move (d : Decoding s slot) (searching : slot.state = .searching) :
    RxMove .searching s (endSearch slot s) := by
  cases d.searching searching
  refine .kept vacantSlot ?_ (.inr (.inr rfl)) rfl
  exact
    { slots := rfl
      head := rfl
      tail := rfl
      ok := vacantSlot_rxSlotOk
      is_open := by decide
      nBits_le := by simp
      readBits_lt := by simp
      armed_iff := by simp [d.disarmed, vacantSlot] }

/-- The slot in hand written back with a legal accumulator and the timer off. -/
theorem putRx_move {b : RxSlot} {st : RxState} (disarmed : s.ackArmed = false) (ok : RxSlotOk b)
    (loading : b.state = .searching ∨ b.state = .loading) (move : OpenStep st b.state) (nBits_le : s.nBits ≤ 9)
    (readBits_lt : s.readBits.toNat < 2 ^ s.nBits) : RxMove st s (s.putRx s.head b) :=
  .kept b
    { slots := rfl
      head := rfl
      tail := rfl
      ok := ok
      is_open := by rcases loading with h | h <;> simp [h]
      nBits_le := nBits_le
      readBits_lt := readBits_lt
      armed_iff := by rcases loading with h | h <;> simp [h, disarmed] }
    move rfl

theorem sofGroup_move (d : Decoding s slot) (searching : slot.state = .searching) (g : Group) (nBits_le : s.nBits ≤ 9)
    (readBits_lt : s.readBits.toNat < 2 ^ s.nBits) : RxMove .searching s (sofGroup g slot s) := by
  rcases sofGroup_cases g slot s with ⟨-, e⟩ | ⟨-, e⟩ <;> rw [e]
  · cases d.searching searching
    exact putRx_move d.disarmed sofSlot_rxSlotOk (.inr rfl) (.inr (.inl rfl)) nBits_le readBits_lt
  · exact endSearch_move d searching

theorem loadGroup_move {g : Group} {ts : Stamp} (d : Decoding s slot) (loading : slot.state = .loading)
    (nBits_le : s.nBits ≤ 9) (readBits_lt : s.readBits.toNat < 2 ^ s.nBits) (h : loadGroup g ts slot s = .next s') :
    RxMove .loading s s' := by
  rcases loadGroup_next h with ⟨hmax, h⟩ | ⟨room, -, long, rfl⟩ | ⟨room, -, rfl⟩
  · refine complete_move d.pool (.inl rfl) ?_ h
    exact completedSlot_rxSlotOk d.ok (.inl loading) slot.ack (fun e => by cases e)
      (fun _ => d.ok.size_le.antisymm hmax) ts.ms s
  · refine .kept { storeGroup g slot with state := .waitingAck } ?_ (.inr rfl) rfl
    exact
      { slots := rfl
        head := rfl
        tail := rfl
        ok := storeGroup_rxSlotOk (st := .waitingAck) d.ok loading room g (.inr rfl) (fun _ => long)
        is_open := by simp
        nBits_le := nBits_le
        readBits_lt := readBits_lt
        armed_iff := by simp }
  · have ok := storeGroup_rxSlotOk (st := .loading) d.ok loading room g (.inl rfl) (fun e => by cases e)
    have same : { storeGroup g slot with state := .loading } = storeGroup g slot := by simp [storeGroup, loading]
    rw [same] at ok
    exact putRx_move d.disarmed ok (.inr loading) (.inl loading) nBits_le readBits_lt

theorem takeGroup_move {ts : Stamp} (d : Decoding s slot) (nBits_lt : s.nBits < 20) (h : takeGroup ts slot s = .next s') :
    RxMove slot.state s s' := by
  have same : SameQueue s (dropGroup s) := ⟨rfl, rfl, rfl, rfl, rfl, rfl⟩
  have d' : Decoding (dropGroup s) slot := d.of_sameQueue same rfl rfl
  have nBits_le : (dropGroup s).nBits ≤ 9 := by simp; omega
  have readBits_lt := dropGroup_readBits_lt s
  rcases takeGroup_next h with ⟨searching, rfl⟩ | ⟨hs, h⟩
  · rw [searching]
    exact (sofGroup_move d' searching _ nBits_le readBits_lt).of_sameQueue same
  · have loading := d.state.resolve_left hs
    rw [loading]
    exact (loadGroup_move d' loading nBits_le readBits_lt h).of_sameQueue same

theorem acceptRun_move {v : Bit} {r : BitCount} {ts : Stamp} (d : Decoding s slot) (nBits_le : s.nBits ≤ 9)
    (readBits_lt : s.readBits.toNat < 2 ^ s.nBits) (short : r.n ≤ maxRunBits) (h : acceptRun v r ts slot s = .next s') :
    RxMove slot.state s s' := by
  obtain ⟨hn, hslot⟩ := correctRun_cases d.legal v s.nBits r slot
  have hten : (correctRun s.params v s.nBits r slot).n ≤ 10 := hn.trans short
  have hrun := acceptRun_next h
  dsimp only at hrun
  generalize correctRun s.params v s.nBits r slot = f at *
  have same : SameQueue s (appendRun v f.n f.jitter s) := ⟨rfl, rfl, rfl, rfl, rfl, rfl⟩
  have hstate : f.slot.state = slot.state := by
    rcases hslot with e | ⟨-, i, -, e⟩ <;> rw [e]
  have hok : RxSlotOk f.slot := by
    rcases hslot with e | ⟨loading, i, hi, e⟩ <;> rw [e]
    · exact d.ok
    · exact
        { d.ok with
          of_vacant := by simp [loading]
          of_searching := by simp [loading]
          uncertain_lt := by rintro j ⟨⟩; exact hi }
  have d' : Decoding (appendRun v f.n f.jitter s) f.slot :=
    { d.of_sameQueue same rfl rfl with
      ok := hok
      state := by rw [hstate]; exact d.state }
  rw [← hstate]
  rcases hrun with ⟨-, h⟩ | ⟨hfew, rfl⟩
  · refine (takeGroup_move d' ?_ h).of_sameQueue same
    simp only [appendRun_nBits]
    omega
  · replace hfew : s.nBits + f.n < 10 := hfew
    refine (putRx_move d'.disarmed hok d'.state ?_ ?_ ?_).of_sameQueue same
    · rcases d'.state with e | e <;> simp [OpenStep, e]
    · simp only [appendRun_nBits]
      omega
    · exact appendRun_readBits_lt readBits_lt v f.n f.jitter (by omega)

theorem runStep_move {level : Bit} {c : Word} {ts : Stamp} (d : Decoding s slot) (nBits_le : s.nBits ≤ 9)
    (readBits_lt : s.readBits.toNat < 2 ^ s.nBits) (h : runStep level c ts slot s = .next s') :
    RxMove slot.state s s' := by
  rcases runStep_next h with ⟨-, searching, rfl⟩ | ⟨-, hs, h⟩ | ⟨short, h⟩
  · rw [searching]
    exact endSearch_move d searching
  · have loading := d.state.resolve_left hs
    refine complete_move d.pool (.inl loading) ?_ h
    exact completedSlot_rxSlotOk d.ok (.inl loading) slot.ack (fun e => by cases e) (fun e => by cases e) ts.ms s
  · exact acceptRun_move d nBits_le readBits_lt short h

end

/-! ### The two events -/

section
variable {s s' : State}

/-- An ACK wait ends in completion, or the frame goes on loading (R193). -/
theorem ackEdge_move {level : Bit} {c : Word} {ts : Stamp} {slot : RxSlot} (legal : LegalParams s.params)
    (pool : RxPool s) (ok : RxSlotOk slot) (waiting : slot.state = .waitingAck) (nBits_le : s.nBits ≤ 9)
    (readBits_lt : s.readBits.toNat < 2 ^ s.nBits) (h : ackEdge level c ts slot s = .next s') :
    RxMove .waitingAck s s' := by
  have same : SameQueue s (cancelTimer s) := ⟨rfl, rfl, rfl, rfl, rfl, rfl⟩
  have pool' := pool.of_sameQueue same
  rcases ackEdge_next h with ⟨-, h⟩ | ⟨-, h⟩
  · refine (complete_move pool' (.inr rfl) ?_ h).of_sameQueue same
    exact completedSlot_rxSlotOk ok (.inr waiting) .ack (fun _ => ok.of_waiting waiting) (fun e => by cases e) ts.ms _
  · have d : Decoding (cancelTimer s) { slot with state := .loading } :=
      ⟨legal, pool', reload_rxSlotOk ok waiting, .inr rfl, rfl⟩
    exact (runStep_move d nBits_le readBits_lt h).of_reload.of_sameQueue same

/-- The ACK timer is off unless the slot at `head` waits for it (R192). -/
theorem RxOn.disarmed {slot : RxSlot} (on : RxOn s) (at_head : s.rxSlots[s.head]? = some slot)
    (h : slot.state ≠ .waitingAck) : s.ackArmed = false := by
  by_contra hc
  obtain ⟨x, hx, hw⟩ := on.ack_armed.mp (Bool.eq_true_of_not_eq_false hc)
  cases at_head.symm.trans hx
  exact h hw

theorem vacantEdge_move (level : Bit) {slot : RxSlot} (at_head : s.rxSlots[s.head]? = some slot) (on : RxOn s)
    (vacant : slot.state = .vacant) : RxMove .vacant s (vacantEdge level slot s) := by
  have hv := (on.slots_ok slot (List.mem_of_getElem? at_head)).of_vacant vacant
  have disarmed := on.disarmed at_head (by simp [vacant])
  subst hv
  cases level
  · refine .kept searchSlot ?_ (.inr rfl) rfl
    exact
      { slots := rfl
        head := rfl
        tail := rfl
        ok := searchSlot_rxSlotOk
        is_open := by decide
        nBits_le := by simp [vacantEdge]
        readBits_lt := by simp [vacantEdge]
        armed_iff := by simp [vacantEdge, disarmed, searchSlot] }
  · refine .kept vacantSlot ?_ (.inl rfl) rfl
    exact
      { slots := by
          rw [set_eq_self_of_getElem? at_head]
          rfl
        head := rfl
        tail := rfl
        ok := vacantSlot_rxSlotOk
        is_open := by decide
        nBits_le := on.nBits_le
        readBits_lt := on.readBits_lt
        armed_iff := by simp [vacantEdge, disarmed, vacantSlot] }

theorem RxOn.of_edgePrologue (on : RxOn s) (level : Bit) (now : Word) : RxOn (edgePrologue level now s) := { on with }

/-- What a delivered edge makes of the pool (R180). -/
theorem edgeHandler_move {level : Bit} {ts : Stamp} (legal : LegalParams s.params) (on : RxOn s)
    (h : edgeHandler level ts s = .next s') :
    ∃ slot, s.rxSlots[s.head]? = some slot ∧ RxMove slot.state s s' := by
  have same : SameQueue s (edgePrologue level ts.now s) := ⟨rfl, rfl, rfl, rfl, rfl, rfl⟩
  have on' := on.of_edgePrologue level ts.now
  obtain ⟨slot, at_head, hcase⟩ := edgeHandler_next h
  have ok := on.slots_ok slot (List.mem_of_getElem? at_head)
  refine ⟨slot, at_head, ?_⟩
  rcases hcase with ⟨vacant, rfl⟩ | ⟨running, h⟩ | ⟨waiting, h⟩
  · rw [vacant]
    exact (vacantEdge_move (s := edgePrologue level ts.now s) level at_head on' vacant).of_sameQueue same
  · have disarmed := on.disarmed at_head (by rcases running with h | h <;> simp [h])
    have d : Decoding (edgePrologue level ts.now s) slot := ⟨legal, on'.pool, ok, running, disarmed⟩
    exact (runStep_move (s := edgePrologue level ts.now s) d on.nBits_le on.readBits_lt h).of_sameQueue same
  · rw [waiting]
    exact (ackEdge_move (s := edgePrologue level ts.now s) legal on'.pool ok waiting on.nBits_le on.readBits_lt
      h).of_sameQueue same

/-- What the ACK timer's expiry makes of the pool: the frame that waits completes (R194). -/
theorem ackTimeoutHandler_move {ts : Stamp} (on : RxOn s) (armed : s.ackArmed = true)
    (h : ackTimeoutHandler ts s = .next s') :
    ∃ slot, s.rxSlots[s.head]? = some slot ∧ RxMove slot.state s s' := by
  have same : SameQueue s (cancelTimer s) := ⟨rfl, rfl, rfl, rfl, rfl, rfl⟩
  obtain ⟨slot, at_head, waiting⟩ := on.ack_armed.mp armed
  have ok := on.slots_ok slot (List.mem_of_getElem? at_head)
  obtain ⟨x, hx, ⟨-, h⟩ | ⟨hw, -⟩⟩ := ackTimeoutHandler_next h <;> cases at_head.symm.trans hx
  · refine ⟨slot, at_head, (complete_move (on.pool.of_sameQueue same) (.inr waiting) ?_ h).of_sameQueue same⟩
    exact completedSlot_rxSlotOk ok (.inr waiting) .noAck (fun _ => ok.of_waiting waiting) (fun e => by cases e) ts.ms _
  · exact absurd waiting hw

theorem edgeEnabled_configured (h : edgeEnabled s = true) : s.configured = true := by
  simp only [edgeEnabled, Bool.and_eq_true] at h
  obtain ⟨⟨hc, -⟩, -⟩ := h
  exact hc

/-- An armed ACK timer means a configured block. -/
theorem RxInv.configured_of_armed (inv : RxInv s) (armed : s.ackArmed = true) : s.configured = true := by
  by_contra hc
  simp [(inv.off (Bool.eq_false_of_not_eq_true hc)).1] at armed

/-- What an operation can do to the receive side, from a state of its invariant. -/
inductive RxEffect (s s' : State) : Prop
  /-- nothing -/
  | unwritten (same : TxOnly s s')
  /-- SETUP (44_rx_queue.md R260) -/
  | setup (rxPin txPin capacity now : Word) (r : Result) (off : s.configured = false)
      (capacity_ok : capacityOk s.params capacity = true) (eq : s' = (setupState rxPin txPin capacity now s).answer r)
  /-- RECEIVE of the frame at `tail` (R265) -/
  | receive (slot : RxSlot) (r : Result) (on : s.configured = true) (at_tail : s.rxSlots[s.tail]? = some slot)
      (done : slot.state = .done) (eq : s' = (takeFrame s).answer r)
  /-- an edge or an ACK timeout at the slot at `head` (42_rx_decoder.md R180, R194) -/
  | moved (slot : RxSlot) (on : s.configured = true) (build : SameBuild s s') (at_head : s.rxSlots[s.head]? = some slot)
      (move : RxMove slot.state s s')

theorem Effect.rx (e : Effect s s') (legal : LegalParams s.params) (inv : RxInv s) : RxEffect s s' := by
  cases e with
  | quiet _ tx => exact .unwritten tx
  | setup rxPin txPin capacity now r off hq e => exact .setup rxPin txPin capacity now r off hq e
  | receive slot r hc at_tail done e => exact .receive slot r hc at_tail done e
  | edge level ts enabled run =>
    have hc := edgeEnabled_configured enabled
    obtain ⟨slot, at_head, m⟩ := edgeHandler_move legal (inv.on hc) run
    exact .moved slot hc (edgeHandler_rxOnly run).toSameBuild at_head m
  | timeout ts armed run =>
    have hc := inv.configured_of_armed armed
    obtain ⟨slot, at_head, m⟩ := ackTimeoutHandler_move (inv.on hc) armed run
    exact .moved slot hc (ackTimeoutHandler_rxOnly run).toSameBuild at_head m
  | enqueue iden flags data len u r run e =>
    obtain ⟨-, -, -, rfl⟩ := enqueue_queued run
    subst e
    exact .unwritten ((txOnly_queueFrame s iden flags data len).trans (txOnly_answer _ r))
  | refusedSend e => subst e; exact .unwritten (txOnly_endSend s false)
  | firstPass _ _ _ _ _ run => exact .unwritten (sendPass_txOnly run)
  | laterPass _ _ _ run => exact .unwritten (sendPass_txOnly run)
  | tick _ _ _ run => exact .unwritten (tickHandler_txOnly run)

end

end Sys2Proof.Machine
end

section
/-! SUPPORT. The obligations about the receive side: its invariant and the moves of a slot's state, each from
what an operation can do there. -/

namespace Sys2Proof.Machine

open Sys2Proof.Config

/-! ### The invariant after each effect -/

theorem RxInv.withInput {s : State} (inv : RxInv s) (rest : List Byte) : RxInv { s with input := rest } :=
  ⟨inv.off, fun on => { inv.on on with }⟩

section
variable {s s' : State}

theorem RxOn.of_sameRx (on : RxOn s) (build : SameBuild s s') (rx : SameRx s s') : RxOn s' where
  length_eq := by rw [rx.slots, build.q]; exact on.length_eq
  q_ge := by rw [build.q]; exact on.q_ge
  q_le := by rw [build.q, build.params]; exact on.q_le
  head_lt := by rw [rx.head, build.q]; exact on.head_lt
  tail_lt := by rw [rx.tail, build.q]; exact on.tail_lt
  slots_ok := by rw [rx.slots]; exact on.slots_ok
  head_open := by rw [rx.slots, rx.head]; exact on.head_open
  others_closed := by rw [rx.slots, rx.head]; exact on.others_closed
  nBits_le := by rw [rx.nBits]; exact on.nBits_le
  readBits_lt := by rw [rx.nBits, rx.readBits]; exact on.readBits_lt
  ack_armed := by rw [rx.ackArmed, rx.slots, rx.head]; exact on.ack_armed

theorem RxInv.of_same (inv : RxInv s) (build : SameBuild s s') (rx : SameRx s s') : RxInv s' where
  off hc := by
    have off := build.configured.symm.trans hc
    rw [rx.ackArmed, rx.hostEnabled off, rx.slots]
    exact inv.off off
  on hc := (inv.on (build.configured.symm.trans hc)).of_sameRx build rx

/-- The slots of a pool after SETUP (R260). -/
theorem setupState_rxOn (rxPin txPin capacity now : Word) (r : Result) (h : capacityOk s.params capacity = true) :
    RxOn ((setupState rxPin txPin capacity now s).answer r) := by
  simp only [capacityOk, Bool.and_eq_true, decide_eq_true_eq] at h
  obtain ⟨q_ge, q_le⟩ := h
  have hpos : 0 < capacity.toNat := Nat.lt_of_lt_of_le (by decide) q_ge
  have vacant {i : Nat} {slot : RxSlot} (hs : (List.replicate capacity.toNat vacantSlot)[i]? = some slot) :
      slot = vacantSlot := List.eq_of_mem_replicate (List.mem_of_getElem? hs)
  exact
    { length_eq := List.length_replicate
      q_ge := q_ge
      q_le := q_le
      head_lt := hpos
      tail_lt := hpos
      slots_ok := by
        intro slot hs
        rw [List.eq_of_mem_replicate hs]
        exact vacantSlot_rxSlotOk
      head_open := by
        intro slot hs
        rw [vacant hs]
        decide
      others_closed := by
        intro i slot _ hs
        rw [vacant hs]
        exact .inl rfl
      nBits_le := Nat.zero_le 9
      readBits_lt := by simp [setupState]
      ack_armed := by
        constructor
        · intro armed
          cases armed
        · rintro ⟨slot, hs, hw⟩
          rw [vacant hs] at hw
          cases hw }

theorem HeadSet.rxOn {b : RxSlot} (h : HeadSet s b s') (on : RxOn s) (build : SameBuild s s') : RxOn s' where
  length_eq := by rw [build.rxLength, build.q]; exact on.length_eq
  q_ge := by rw [build.q]; exact on.q_ge
  q_le := by rw [build.q, build.params]; exact on.q_le
  head_lt := by rw [h.head, build.q]; exact on.head_lt
  tail_lt := by rw [h.tail, build.q]; exact on.tail_lt
  slots_ok := by
    rw [h.slots]
    intro slot hs
    rcases List.mem_or_eq_of_mem_set hs with hs | rfl
    · exact on.slots_ok slot hs
    · exact h.ok
  head_open := by
    rw [h.slots, h.head]
    intro slot hs
    rcases getElem?_set_cases hs with ⟨-, rfl, -⟩ | ⟨hne, -⟩
    · exact h.is_open
    · exact absurd rfl hne
  others_closed := by
    rw [h.slots, h.head]
    intro i slot hi hs
    rcases getElem?_set_cases hs with ⟨rfl, -, -⟩ | ⟨-, hs⟩
    · exact absurd rfl hi
    · exact on.others_closed i slot hi hs
  nBits_le := h.nBits_le
  readBits_lt := h.readBits_lt
  ack_armed := by
    rw [h.armed_iff, h.slots, h.head, List.getElem?_set_self (on.length_eq ▸ on.head_lt)]
    simp

theorem HeadMoved.rxOn {b : RxSlot} (h : HeadMoved s b s') (on : RxOn s) (build : SameBuild s s') : RxOn s' where
  length_eq := by rw [build.rxLength, build.q]; exact on.length_eq
  q_ge := by rw [build.q]; exact on.q_ge
  q_le := by rw [build.q, build.params]; exact on.q_le
  head_lt := by rw [h.head, build.q]; exact on.pool.next_lt
  tail_lt := by rw [h.tail, build.q]; exact on.tail_lt
  slots_ok := by
    rw [h.slots]
    intro slot hs
    rcases List.mem_or_eq_of_mem_set hs with hs | rfl
    · rcases List.mem_or_eq_of_mem_set hs with hs | rfl
      · exact on.slots_ok slot hs
      · exact h.ok
    · exact vacantSlot_rxSlotOk
  head_open := by
    rw [h.slots, h.head]
    intro slot hs
    rcases getElem?_set_cases hs with ⟨-, rfl, -⟩ | ⟨hne, -⟩
    · decide
    · exact absurd rfl hne
  others_closed := by
    rw [h.slots, h.head]
    intro i slot hi hs
    rcases getElem?_set_cases hs with ⟨rfl, -, -⟩ | ⟨-, hs⟩
    · exact absurd rfl hi
    · rcases getElem?_set_cases hs with ⟨-, rfl, -⟩ | ⟨hne, hs⟩
      · exact .inr h.done
      · exact on.others_closed i slot hne hs
  nBits_le := by simp [h.nBits]
  readBits_lt := by simp [h.readBits]
  ack_armed := by
    rw [h.disarmed, h.slots, h.head, List.getElem?_set_self (by simpa [on.length_eq] using on.pool.next_lt)]
    simp [vacantSlot]

theorem RxMove.rxOn {st : RxState} (m : RxMove st s s') (on : RxOn s) (build : SameBuild s s') : RxOn s' := by
  cases m with
  | kept b set => exact set.rxOn on build
  | dropped set => exact set.rxOn on build
  | queued b moved => exact moved.rxOn on build

/-- The slot at `tail`, when DONE, is not the producer's. -/
theorem RxOn.tail_ne_head {slot : RxSlot} (on : RxOn s) (at_tail : s.rxSlots[s.tail]? = some slot)
    (done : slot.state = .done) : s.tail ≠ s.head := by
  intro e
  rw [e] at at_tail
  exact on.head_open slot at_tail done

theorem takeFrame_rxOn {slot : RxSlot} (on : RxOn s) (at_tail : s.rxSlots[s.tail]? = some slot)
    (done : slot.state = .done) : RxOn (takeFrame s) where
  length_eq := by simpa using on.length_eq
  q_ge := on.q_ge
  q_le := on.q_le
  head_lt := on.head_lt
  tail_lt := Nat.mod_lt _ (Nat.zero_lt_of_lt on.head_lt)
  slots_ok := by
    intro x hx
    rcases List.mem_or_eq_of_mem_set hx with hx | rfl
    · exact on.slots_ok x hx
    · exact vacantSlot_rxSlotOk
  head_open := by
    intro x hx
    rcases getElem?_set_cases hx with ⟨-, rfl, -⟩ | ⟨-, hx⟩
    · decide
    · exact on.head_open x hx
  others_closed := by
    intro i x hi hx
    rcases getElem?_set_cases hx with ⟨-, rfl, -⟩ | ⟨-, hx⟩
    · exact .inl rfl
    · exact on.others_closed i x hi hx
  nBits_le := on.nBits_le
  readBits_lt := on.readBits_lt
  ack_armed := by
    simp only [takeFrame_ackArmed, takeFrame_rxSlots, takeFrame_head,
      List.getElem?_set_ne (on.tail_ne_head at_tail done)]
    exact on.ack_armed

theorem RxInv.of_configured (on : RxOn s') (hc : s'.configured = true) : RxInv s' :=
  ⟨fun off => by simp [hc] at off, fun _ => on⟩

theorem RxEffect.rxInv (e : RxEffect s s') (inv : RxInv s) : RxInv s' := by
  cases e with
  | unwritten same => exact inv.of_same same.toSameBuild same.toSameRx
  | setup rxPin txPin capacity now r _ hq e =>
    subst e
    exact .of_configured (setupState_rxOn rxPin txPin capacity now r hq) rfl
  | receive slot r hc at_tail done e =>
    subst e
    have on := takeFrame_rxOn (inv.on hc) at_tail done
    exact .of_configured (on.of_sameRx (txOnly_answer _ r).toSameBuild (txOnly_answer _ r).toSameRx) hc
  | moved slot hc build _ move => exact .of_configured (move.rxOn (inv.on hc) build) (build.configured.trans hc)

end

/-- Settles O53: the invariant holds after each effect a step can have. -/
theorem everyStepKeepsTheReceiveInvariant : Obligations.EveryStepKeepsTheReceiveInvariant := by
  intro s s' legal inv h
  obtain ⟨rest, e⟩ := step_effect h
  exact (e.rx legal (inv.withInput rest)).rxInv (inv.withInput rest)

/-! ### The moves of a slot's state -/

/-- What can become of slot `a` in one operation, the drop policy being on or off (10_state.md R38). -/
def SlotMove (policy : Bit) (a b : RxSlot) : Prop :=
  match a.state with
  | .vacant => b.state = .vacant ∨ b.state = .searching
  | .searching => b.state = .searching ∨ b.state = .loading ∨ b.state = .vacant
  | .loading => b.state = .loading ∨ b.state = .waitingAck ∨ b.state = .done ∨ (b.state = .vacant ∧ policy = true)
  | .waitingAck => b.state = .waitingAck ∨ b.state = .loading ∨ b.state = .done ∨ (b.state = .vacant ∧ policy = true)
  | .done => b = a ∨ b.state = .vacant

section
variable {s s' : State} {policy : Bit} {a b : RxSlot}

theorem SlotMove.refl (policy : Bit) (a : RxSlot) : SlotMove policy a a := by
  cases h : a.state <;> simp [SlotMove, h]

theorem SlotMove.of_openStep (h : OpenStep a.state b.state) : SlotMove policy a b := by
  cases ha : a.state <;> simp only [ha, OpenStep] at h <;> simp only [SlotMove, ha] <;> tauto

theorem SlotMove.of_completed (loaded : Loaded a.state) (done : b.state = .done) : SlotMove policy a b := by
  rcases loaded with h | h <;> simp [SlotMove, h, done]

theorem SlotMove.of_dropped (loaded : Loaded a.state) : SlotMove true a vacantSlot := by
  rcases loaded with h | h <;> simp [SlotMove, h, vacantSlot]

/-- A free slot, or one that holds an unread frame, may be reinitialised. -/
theorem SlotMove.of_closed (h : a = vacantSlot ∨ a.state = .done) : SlotMove policy a vacantSlot := by
  rcases h with rfl | h
  · exact .refl policy vacantSlot
  · simp [SlotMove, h, vacantSlot]

/-- The slots of a pool of which only slot `k` was written. -/
theorem slotMove_of_set {l : List RxSlot} {k i : Nat} {x : RxSlot} (ha : l[i]? = some a) (hb : (l.set k x)[i]? = some b)
    (written : ∀ y, l[k]? = some y → SlotMove policy y x) : SlotMove policy a b := by
  rcases getElem?_set_cases hb with ⟨rfl, rfl, -⟩ | ⟨-, hb⟩
  · exact written a ha
  · cases ha.symm.trans hb
    exact .refl policy a

theorem RxMove.slotMove {slot : RxSlot} (m : RxMove slot.state s s') (pool : RxPool s)
    (at_head : s.rxSlots[s.head]? = some slot) {k : Nat} (ha : s.rxSlots[k]? = some a) (hb : s'.rxSlots[k]? = some b) :
    SlotMove s.dropEnabled a b := by
  have written {x : RxSlot} (h : SlotMove s.dropEnabled slot x) (y : RxSlot) (hy : s.rxSlots[s.head]? = some y) :
      SlotMove s.dropEnabled y x := by
    cases at_head.symm.trans hy
    exact h
  cases m with
  | kept x set move =>
    rw [set.slots] at hb
    exact slotMove_of_set ha hb (written (.of_openStep move))
  | dropped set loaded policy =>
    rw [set.slots] at hb
    exact slotMove_of_set ha hb (written (policy ▸ .of_dropped loaded))
  | queued x moved loaded =>
    rw [moved.slots, List.set_comm _ _ pool.next_ne.symm] at hb
    rcases getElem?_set_cases hb with ⟨rfl, rfl, -⟩ | ⟨-, hb⟩
    · exact written (.of_completed loaded moved.done) a ha
    · exact slotMove_of_set ha hb fun y hy => .of_closed (pool.next_slot hy)

theorem RxEffect.slotMove (e : RxEffect s s') (inv : RxInv s) (hc : s.configured = true) {k : Nat}
    (ha : s.rxSlots[k]? = some a) (hb : s'.rxSlots[k]? = some b) : SlotMove s.dropEnabled a b := by
  cases e with
  | unwritten same =>
    rw [same.slots] at hb
    cases ha.symm.trans hb
    exact .refl _ a
  | setup _ _ _ _ _ off => simp [hc] at off
  | receive slot r _ at_tail done e =>
    subst e
    refine slotMove_of_set ha hb fun y hy => .of_closed (.inr ?_)
    cases at_tail.symm.trans hy
    exact done
  | moved slot _ _ at_head move => exact move.slotMove (inv.on hc).pool at_head ha hb

end

/-- Settles O39: every effect of an operation moves each slot along R38. -/
theorem rxStateTransitions : Obligations.RxStateTransitions := by
  intro s s' i k a b legal inv hc h ha hb
  exact ((exec_effect h).rx legal inv).slotMove inv hc ha hb

end Sys2Proof.Machine
end

section
/-! SUPPORT. The order of the unread frames: the DONE slots of the receive pool are a queue in its ring, and each effect that
loses no unread frame keeps it one, with rising sequence numbers. -/

namespace Sys2Proof.Machine

/-- The slot holds an unread frame. -/
def Unread (slot : RxSlot) : Prop := slot.state = .done

/-- Writing one slot changes the count of DONE slots by that slot's part in it. -/
theorem doneCount_set {l : List RxSlot} {k : Nat} {x y : RxSlot} (hy : l[k]? = some y) :
    doneCount (l.set k x) + (if y.state = .done then 1 else 0) = doneCount l + if x.state = .done then 1 else 0 := by
  obtain ⟨hk, rfl⟩ := List.getElem?_eq_some_iff.mp hy
  have hle : (if l[k].state = .done then 1 else 0) ≤ doneCount l := by
    split
    · next hd => exact List.countP_pos_iff.mpr ⟨l[k], List.getElem_mem hk, by simpa using hd⟩
    · exact Nat.zero_le _
  simp only [doneCount, decide_eq_true_eq, List.countP_set hk] at hle ⊢
  omega

section
variable {s s' : State}

theorem RxOn.exists_head (on : RxOn s) : ∃ slot, s.rxSlots[s.head]? = some slot ∧ slot.state ≠ .done := by
  have hlt := on.length_eq ▸ on.head_lt
  exact ⟨_, List.getElem?_eq_getElem hlt, on.head_open _ (List.getElem?_eq_getElem hlt)⟩

/-- The producer's slot is never unread, so at most `Q - 1` are (10_state.md R54 item 3). -/
theorem RxOn.nQueued_lt (on : RxOn s) : s.nQueued < s.q.toNat := by
  obtain ⟨slot, hs, hopen⟩ := on.exists_head
  rw [← on.length_eq]
  exact List.countP_lt_length_iff.mpr ⟨slot, List.mem_of_getElem? hs, by simpa using hopen⟩

/-- The unread frames as a queue in the ring of slots. -/
theorem InOrder.queue (order : InOrder s) (on : RxOn s) : RingQueue Unread s.rxSlots s.tail s.head s.nQueued where
  tail_lt := on.length_eq ▸ on.tail_lt
  count_le := on.length_eq ▸ on.nQueued_lt.le
  head_eq := by rw [on.length_eq]; exact order.head_eq
  used_iff i x hx := by rw [on.length_eq, ← rxOffset_eq_ringOffset]; exact order.done_iff i x hx

/-- Order from the queue and the sequence numbers. -/
theorem InOrder.of_queue (length_eq : s.rxSlots.length = s.q.toNat)
    (queue : RingQueue Unread s.rxSlots s.tail s.head s.nQueued)
    (below_next : ∀ (i : Nat) (slot : RxSlot), s.rxSlots[i]? = some slot → slot.state = .done →
      slot.seqNo.toNat < s.rxStats.rxCount.toNat)
    (rising : ∀ (i j : Nat) (a b : RxSlot), s.rxSlots[i]? = some a → s.rxSlots[j]? = some b → a.state = .done →
      b.state = .done → rxOffset s i < rxOffset s j → a.seqNo.toNat < b.seqNo.toNat) : InOrder s where
  head_eq := by rw [← length_eq]; exact queue.head_eq
  done_iff i slot hs := by rw [rxOffset_eq_ringOffset, ← length_eq]; exact queue.used_iff i slot hs
  below_next slot hs := by
    obtain ⟨i, hi⟩ := List.mem_iff_getElem?.mp hs
    exact below_next i slot hi
  rising := rising

theorem InOrder.below_next_at (order : InOrder s) {i : Nat} {slot : RxSlot} (hs : s.rxSlots[i]? = some slot)
    (done : slot.state = .done) : slot.seqNo.toNat < s.rxStats.rxCount.toNat :=
  order.below_next slot (List.mem_of_getElem? hs) done

theorem rxOffset_congr (q : s'.q = s.q) (tail : s'.tail = s.tail) (i : Nat) : rxOffset s' i = rxOffset s i := by
  simp only [rxOffset, q, tail]

/-! ### The effects on the order -/

theorem InOrder.of_same (order : InOrder s) (build : SameBuild s s') (rx : SameRx s s') : InOrder s' := by
  have count : s'.nQueued = s.nQueued := by simp only [State.nQueued, rx.slots]
  exact
    { head_eq := by rw [rx.head, rx.tail, count, build.q]; exact order.head_eq
      done_iff := by
        intro i
        rw [rx.slots, count, rxOffset_congr build.q rx.tail]
        exact order.done_iff i
      below_next := by rw [rx.slots, rx.rxStats]; exact order.below_next
      rising := by
        intro i j
        rw [rx.slots, rxOffset_congr build.q rx.tail, rxOffset_congr build.q rx.tail]
        exact order.rising i j }

/-- A pool without unread frames is in order when the consumer waits at `head`. -/
theorem InOrder.of_none_done (vacant : ∀ slot ∈ s.rxSlots, slot.state ≠ .done) (head : s.head = 0) (tail : s.tail = 0) :
    InOrder s := by
  have count : s.nQueued = 0 := List.countP_eq_zero.mpr fun slot hs => by simpa using vacant slot hs
  exact
    { head_eq := by simp [head, tail, count]
      done_iff := fun i slot hs => by simp [count, vacant slot (List.mem_of_getElem? hs)]
      below_next := fun slot hs done => absurd done (vacant slot hs)
      rising := fun i j a b ha hb done => absurd done (vacant a (List.mem_of_getElem? ha)) }

/-- The slot at `head` stays open: the unread frames are the same. -/
theorem HeadSet.inOrder {b : RxSlot} (h : HeadSet s b s') (on : RxOn s) (build : SameBuild s s') (order : InOrder s)
    (count_le : s.rxStats.rxCount.toNat ≤ s'.rxStats.rxCount.toNat) : InOrder s' := by
  obtain ⟨slot, at_head, hopen⟩ := on.exists_head
  have count : s'.nQueued = s.nQueued := by
    have hset := doneCount_set (x := b) at_head
    simp only [h.is_open, hopen, if_false] at hset
    rw [State.nQueued, h.slots]
    exact hset
  have kept {i : Nat} {x : RxSlot} (hx : s'.rxSlots[i]? = some x) (done : x.state = .done) : s.rxSlots[i]? = some x := by
    rw [h.slots] at hx
    rcases getElem?_set_cases hx with ⟨-, rfl, -⟩ | ⟨-, hx⟩
    · exact absurd done h.is_open
    · exact hx
  refine .of_queue (by rw [build.rxLength, build.q]; exact on.length_eq) ?_ ?_ ?_
  · rw [h.slots, h.tail, h.head, count]
    refine (order.queue on).set fun y hy => ?_
    cases at_head.symm.trans hy
    exact iff_of_false h.is_open hopen
  · intro i x hx done
    exact (order.below_next_at (kept hx done) done).trans_le count_le
  · intro i j x y hx hy dx dy hlt
    rw [rxOffset_congr build.q h.tail, rxOffset_congr build.q h.tail] at hlt
    exact order.rising i j x y (kept hx dx) (kept hy dy) dx dy hlt

/-- A frame is queued behind the others, with the highest sequence number, when the next slot was free. -/
theorem HeadMoved.inOrder {b : RxSlot} (h : HeadMoved s b s') (on : RxOn s) (build : SameBuild s s') (order : InOrder s)
    (overwritten : s'.rxStats.rxOverwritten = s.rxStats.rxOverwritten)
    (count_le : s.rxStats.rxCount.toNat ≤ s'.rxStats.rxCount.toNat) : InOrder s' := by
  obtain ⟨slot, at_head, hopen⟩ := on.exists_head
  have hnext : (s.head + 1) % s.q.toNat < s.rxSlots.length := on.length_eq ▸ on.pool.next_lt
  have next_free : s.rxSlots[(s.head + 1) % s.q.toNat]? = some vacantSlot := by
    rw [List.getElem?_eq_getElem hnext]
    refine congrArg some ((on.pool.next_slot (List.getElem?_eq_getElem hnext)).resolve_right fun done => ?_)
    have := overwritten.symm.trans (h.overwritten _ (List.getElem?_eq_getElem hnext) done)
    simp at this
  have slots : s'.rxSlots = s.rxSlots.set s.head b := by
    rw [h.slots]
    exact set_eq_self_of_getElem? (by rw [List.getElem?_set_ne on.pool.next_ne.symm, next_free])
  have count : s'.nQueued = s.nQueued + 1 := by
    have hset := doneCount_set (x := b) at_head
    simp only [h.done, hopen, if_false, if_true] at hset
    rw [State.nQueued, slots]
    exact hset
  have next_count : s'.rxStats.rxCount.toNat = s.rxStats.rxCount.toNat + 1 := by
    have one : (1 : Word).toNat = 1 := rfl
    rw [h.rxCount, BitVec.toNat_add, one] at count_le ⊢
    omega
  have queue := order.queue on
  have head_offset : rxOffset s s.head = s.nQueued := by
    rw [rxOffset_eq_ringOffset, ringOffset_eq_iff on.tail_lt on.head_lt on.nQueued_lt]
    exact order.head_eq
  refine .of_queue (by rw [build.rxLength, build.q]; exact on.length_eq) ?_ ?_ ?_
  · rw [slots, h.tail, h.head, count, ← on.length_eq]
    exact queue.push (queue.count_lt at_head hopen) h.done
  · intro i x hx done
    rw [slots] at hx
    rcases getElem?_set_cases hx with ⟨-, rfl, -⟩ | ⟨-, hx⟩
    · rw [h.seqNo, next_count]
      exact Nat.lt_succ_self _
    · exact next_count ▸ (order.below_next_at hx done).trans (Nat.lt_succ_self _)
  · intro i j x y hx hy dx dy hlt
    rw [rxOffset_congr build.q h.tail, rxOffset_congr build.q h.tail] at hlt
    rw [slots] at hx hy
    rcases getElem?_set_cases hy with ⟨rfl, rfl, -⟩ | ⟨-, hy⟩
    · rcases getElem?_set_cases hx with ⟨rfl, -, -⟩ | ⟨-, hx⟩
      · exact absurd hlt (lt_irrefl _)
      · rw [h.seqNo]
        exact order.below_next_at hx dx
    · have hj := (order.done_iff j y hy).mp dy
      rcases getElem?_set_cases hx with ⟨rfl, -, -⟩ | ⟨-, hx⟩
      · omega
      · exact order.rising i j x y hx hy dx dy hlt

theorem RxMove.inOrder {st : RxState} (m : RxMove st s s') (on : RxOn s) (build : SameBuild s s') (order : InOrder s)
    (overwritten : s'.rxStats.rxOverwritten = s.rxStats.rxOverwritten)
    (count_le : s.rxStats.rxCount.toNat ≤ s'.rxStats.rxCount.toNat) : InOrder s' := by
  cases m with
  | kept b set => exact set.inOrder on build order count_le
  | dropped set => exact set.inOrder on build order count_le
  | queued b moved => exact moved.inOrder on build order overwritten count_le

/-- RECEIVE takes the first of the unread frames (44_rx_queue.md R265). -/
theorem takeFrame_inOrder {slot : RxSlot} (on : RxOn s) (order : InOrder s) (at_tail : s.rxSlots[s.tail]? = some slot)
    (done : slot.state = .done) : InOrder (takeFrame s) := by
  have queue := order.queue on
  have vacant : ¬Unread vacantSlot := by simp [Unread, vacantSlot]
  have count : (takeFrame s).nQueued = s.nQueued - 1 := by
    have hset := doneCount_set (x := vacantSlot) at_tail
    simp only [done, vacantSlot, if_true, reduceCtorEq, if_false] at hset
    exact Nat.eq_sub_of_add_eq hset
  have kept {i : Nat} {x : RxSlot} (hx : (takeFrame s).rxSlots[i]? = some x) (dx : x.state = .done) :
      s.rxSlots[i]? = some x ∧ rxOffset (takeFrame s) i + 1 = rxOffset s i := by
    rcases getElem?_set_cases hx with ⟨-, rfl, -⟩ | ⟨hne, hx⟩
    · exact absurd dx vacant
    · have hi := on.length_eq ▸ (List.getElem?_eq_some_iff.mp hx).1
      exact ⟨hx, ringOffset_next on.tail_lt hi hne⟩
  refine .of_queue (by simpa using on.length_eq) ?_ ?_ ?_
  · rw [count, takeFrame_rxSlots, takeFrame_tail, takeFrame_head, ← on.length_eq]
    exact queue.pop ((queue.used_tail_iff at_tail).mp done) vacant
  · intro i x hx dx
    exact order.below_next_at (kept hx dx).1 dx
  · intro i j x y hx hy dx dy hlt
    obtain ⟨hx, ex⟩ := kept hx dx
    obtain ⟨hy, ey⟩ := kept hy dy
    exact order.rising i j x y hx hy dx dy (by omega)

theorem RxEffect.inOrder (e : RxEffect s s') (inv : RxInv s) (order : InOrder s)
    (overwritten : s'.rxStats.rxOverwritten = s.rxStats.rxOverwritten)
    (count_le : s.rxStats.rxCount.toNat ≤ s'.rxStats.rxCount.toNat) : InOrder s' := by
  cases e with
  | unwritten same => exact order.of_same same.toSameBuild same.toSameRx
  | setup rxPin txPin capacity now r _ _ e =>
    subst e
    refine .of_none_done (fun slot hs => ?_) rfl rfl
    rw [List.eq_of_mem_replicate hs]
    decide
  | receive slot r hc at_tail done e =>
    subst e
    exact (takeFrame_inOrder (inv.on hc) order at_tail done).of_same (txOnly_answer _ r).toSameBuild
      (txOnly_answer _ r).toSameRx
  | moved slot hc build _ move => exact move.inOrder (inv.on hc) build order overwritten count_le

end

/-- Settles O57: at reset no frame is unread, and each effect that overwrites none keeps the order. -/
theorem unreadFramesStayInOrder : Obligations.UnreadFramesStayInOrder := by
  refine ⟨.of_none_done (fun slot hs => by cases hs) rfl rfl, ?_⟩
  intro s s' legal inv order h overwritten count_le
  obtain ⟨rest, e⟩ := step_effect h
  exact (e.rx legal (inv.withInput rest)).inOrder (inv.withInput rest) { order with } overwritten count_le

/-- Settles O58: the producer's slot is not unread, and in order the first unread frame is the one at `tail`. -/
theorem unreadFramesAreBoundedAndAvailable : Obligations.UnreadFramesAreBoundedAndAvailable := by
  intro s inv hc
  have on := inv.on hc
  refine ⟨on.nQueued_lt, fun order ts => ?_⟩
  have queue := order.queue on
  obtain ⟨slot, at_tail⟩ : ∃ slot, s.rxSlots[s.tail]? = some slot := ⟨_, List.getElem?_eq_getElem queue.tail_lt⟩
  refine ⟨decide (slot.state = .done), ?_, ?_⟩
  · simp [exec, execAvailable, hc, at_tail, State.answer]
  · rw [decide_eq_true_iff]
    exact queue.used_tail_iff at_tail

end Sys2Proof.Machine
end

section
/-! SUPPORT. Every frame that the block builds has a valid CRC: the CRC register is linear, so after the 15 bits of the
inverted CRC and the 0 bit it holds a constant, whatever it held before. -/

namespace Sys2Proof.Machine

open Sys2Proof.Config

/-- The CRC step is linear in the register and the bit (43_crc_codec.md R230). -/
theorem crcStep_xor (x y : BitVec 15) (a b : Bit) : crcStep (x ^^^ y) (a ^^ b) = crcStep x a ^^^ crcStep y b := by
  have poly (p q : Bit) : (if p ^^ q then crcPoly else 0) = (if p then crcPoly else 0) ^^^ if q then crcPoly else 0 := by
    cases p <;> cases q <;> decide
  have bits : ((x ^^^ y).getLsbD 14 ^^ (a ^^ b)) = ((x.getLsbD 14 ^^ a) ^^ (y.getLsbD 14 ^^ b)) := by
    rw [BitVec.getLsbD_xor, Bool.xor_assoc, Bool.xor_left_comm (y.getLsbD 14), ← Bool.xor_assoc]
  unfold crcStep
  rw [BitVec.shiftLeft_xor_distrib, bits, poly]
  ac_rfl

/-- A bit equal to the register's top bit only shifts it. -/
theorem crcStep_top (x : BitVec 15) : crcStep x (x.getLsbD 14) = x <<< 1 := by simp [crcStep]

/-- A bit that is the inverse of bit `14 - k` of `c`, fed after `k` such bits: the part of the register that comes from `c` is
shifted, and the rest takes a step that does not depend on `c`. -/
theorem crcStep_not_bit (c y : BitVec 15) (k : Nat) (hk : k ≤ 14) :
    crcStep ((c <<< k) ^^^ y) (!c.getLsbD (14 - k)) = (c <<< (k + 1)) ^^^ crcStep y true := by
  have top : (c <<< k).getLsbD 14 = c.getLsbD (14 - k) := by
    rw [BitVec.getLsbD_shiftLeft]
    simp [Nat.not_lt.mpr hk]
  rw [← top, ← Bool.xor_true, crcStep_xor, crcStep_top, ← BitVec.shiftLeft_add]

/-- The register after the first `n` inverted bits of `c`, highest first. -/
theorem crcSteps_not_bits (c : BitVec 15) (n : Nat) (hn : n ≤ 15) :
    ((List.range n).map fun k => !c.getLsbD (14 - k)).foldl crcStep c =
      (c <<< n) ^^^ (List.replicate n true).foldl crcStep 0 := by
  induction n with
  | zero => simp
  | succ n ih =>
    rw [List.range_succ, List.map_append, List.foldl_append, ih (by omega), List.replicate_succ', List.foldl_append]
    exact crcStep_not_bit c _ n (by omega)

/-- The CRC field of the register `c` (R231). -/
def crcFieldOf (c : BitVec 15) : BitVec 16 := (~~~c).setWidth 16 <<< 1

theorem crcFieldOf_getLsbD_zero (c : BitVec 15) : (crcFieldOf c).getLsbD 0 = false := by
  rw [crcFieldOf, BitVec.getLsbD_shiftLeft]
  rfl

theorem crcFieldOf_getLsbD_succ (c : BitVec 15) {j : Nat} (hj : j ≤ 14) : (crcFieldOf c).getLsbD (j + 1) = !c.getLsbD j := by
  rw [crcFieldOf, BitVec.getLsbD_shiftLeft, BitVec.getLsbD_setWidth, BitVec.getLsbD_not]
  simp [show j + 1 < 16 by omega, show j < 16 by omega, show j < 15 by omega]

/-- Two bytes fed to the register are 16 bits, highest first. -/
theorem crcByte_word (x : BitVec 15) (w : BitVec 16) :
    crcByte (crcByte x (w.extractLsb' 8 8)) (w.extractLsb' 0 8) =
      ((List.range 16).map fun k => w.getLsbD (15 - k)).foldl crcStep x := by
  simp [crcByte, List.range_succ]

/-- The bits of the field are the inverted bits of `c` and a 0 bit. -/
theorem crcFieldOf_bits (c : BitVec 15) :
    ((List.range 16).map fun k => (crcFieldOf c).getLsbD (15 - k)) =
      ((List.range 15).map fun k => !c.getLsbD (14 - k)) ++ [false] := by
  rw [List.range_succ, List.map_append]
  congr 1
  · refine List.map_congr_left fun k hk => ?_
    have hk := List.mem_range.mp hk
    rw [show 15 - k = (14 - k) + 1 by omega, crcFieldOf_getLsbD_succ c (by omega)]
  · exact congrArg (fun b => [b]) (crcFieldOf_getLsbD_zero c)

/-- A register that is fed its own CRC field, high byte first, ends at the residue (R232). -/
theorem crc_of_field (c : BitVec 15) :
    crcByte (crcByte c ((crcFieldOf c).extractLsb' 8 8)) ((crcFieldOf c).extractLsb' 0 8) = crcResidue := by
  have gone : c <<< 15 = 0 := by simp
  rw [crcByte_word, crcFieldOf_bits, List.foldl_append, crcSteps_not_bits c 15 le_rfl, gone]
  decide

/-- Every frame that the block builds passes the CRC check (45_tx.md R300, 43_crc_codec.md R231, R232). -/
theorem crcValid_buildFrame (iden : BitVec 12) (flags : BitVec 4) (data : List Byte) (len : Byte) :
    crcValid (buildFrame iden flags data len) = true := by
  obtain ⟨f, hf⟩ : ∃ f, frameHead iden flags data len = sofByte :: f := ⟨_, rfl⟩
  have field : crcField (sofByte :: (f ++ [0, 0])) = crcFieldOf (crcBytes f) := by simp [crcField, crcFieldOf]
  have frame : buildFrame iden flags data len =
      sofByte :: (f ++ [(crcFieldOf (crcBytes f)).extractLsb' 8 8, (crcFieldOf (crcBytes f)).extractLsb' 0 8]) := by
    simp only [buildFrame, hf, List.cons_append, field]
  rw [crcValid, decide_eq_true_iff, frame, List.drop_succ_cons, List.drop_zero, crcBytes, List.foldl_append]
  exact crc_of_field (crcBytes f)

end Sys2Proof.Machine
end

section
/-! SUPPORT. The obligation about the transmit side: what an enqueue and a tick make of the transmit pool, and that `TxInv`
holds after each effect of an operation. -/

namespace Sys2Proof.Machine

open Sys2Proof.Config

/-! ### Slots -/

theorem freeSlot_txSlotOk : TxSlotOk freeSlot where
  size_le := by decide
  bytes_wf := rfl
  bits_eq := rfl
  of_queued h := absurd rfl h
  of_waiting h := by cases h
  of_sending h := by cases h

/-- A frame as it is queued (45_tx.md R302). -/
theorem queuedSlot_txSlotOk (iden : BitVec 12) (flags : BitVec 4) {data : List Byte} {len : Byte}
    (h : badLength data len = false) : TxSlotOk (queuedSlot (buildFrame iden flags data len) len) := by
  have length := buildFrame_length iden flags h
  have frame : readBytes (bufferOf (buildFrame iden flags data len)) (len.toNat + 5) = buildFrame iden flags data len := by
    rw [← length]
    exact readBytes_bufferOf _
  exact
    { size_le := Nat.add_le_add_right (len_le_of_not_badLength h).1 5
      bytes_wf := by
        have wf := memoryWf_bufferOf (buildFrame iden flags data len)
        rw [length] at wf
        exact wf
      bits_eq := congrArg stuffStream frame.symm
      of_queued := fun _ =>
        ⟨Nat.le_add_left 5 len.toNat, (congrArg crcValid frame).trans (crcValid_buildFrame iden flags data len), rfl⟩
      of_waiting := fun _ => rfl
      of_sending := fun e => by cases e }

/-- A queued frame at another point of its transmission: the frame and its stream stay. -/
theorem TxSlotOk.progress {t u : TxSlot} (ok : TxSlotOk t) (queued : t.state ≠ .done) (bytes : u.bytes = t.bytes)
    (size : u.size = t.size) (txBits : u.txBits = t.txBits) (nTxBits : u.nTxBits = t.nTxBits)
    (waiting : u.state = .waiting → u.bitIndex = 0)
    (sending : u.state = .sending → 1 ≤ u.bitIndex ∧ u.bitIndex ≤ t.nTxBits) : TxSlotOk u where
  size_le := by rw [size]; exact ok.size_le
  bytes_wf := by rw [bytes, size]; exact ok.bytes_wf
  bits_eq := by rw [txBits, bytes, size]; exact ok.bits_eq
  of_queued _ := by rw [bytes, size, nTxBits]; exact ok.of_queued queued
  of_waiting := waiting
  of_sending := by rw [nTxBits]; exact sending

/-! ### The pool -/

/-- The slot holds a frame that is not sent yet. -/
def Unsent (t : TxSlot) : Prop := t.state ≠ .done

section
variable {s s' : State}

/-- The frames to send as a queue in the ring of slots. -/
theorem TxOn.ring (on : TxOn s) : ∃ c, RingQueue Unsent s.txSlots s.txTail s.txHead c := by
  obtain ⟨c, hc, head_eq, used_iff⟩ := on.queue
  refine ⟨c, ?_⟩
  exact
    { tail_lt := by rw [on.length_eq]; exact on.tail_lt
      count_le := by rw [on.length_eq]; exact hc
      head_eq := by rw [on.length_eq]; exact head_eq
      used_iff := fun i t ht => by rw [on.length_eq, ← txOffset_eq_ringOffset]; exact used_iff i t ht }

/-- When no other slot can be SENDING, some slot is iff slot `k` is. -/
theorem exists_sending_iff {l : List TxSlot} {k : Nat}
    (only : ∀ (i : Nat) (t : TxSlot), l[i]? = some t → t.state = .sending → i = k) :
    (∃ t ∈ l, t.state = .sending) ↔ ∃ t, l[k]? = some t ∧ t.state = .sending := by
  constructor
  · rintro ⟨t, ht, hs⟩
    obtain ⟨i, hi⟩ := List.mem_iff_getElem?.mp ht
    rw [← only i t hi hs]
    exact ⟨t, hi, hs⟩
  · rintro ⟨t, ht, hs⟩
    exact ⟨t, List.mem_of_getElem? ht, hs⟩

theorem TxOn.suspended_iff_tail (on : TxOn s) :
    s.rxTxSuspended = true ↔ ∃ t, s.txSlots[s.txTail]? = some t ∧ t.state = .sending :=
  on.suspended_iff.trans (exists_sending_iff on.sending_at_tail)

/-- A queue with the levels of R48 and R54 item 6 is what `TxOn` asks for. -/
theorem TxOn.of_ring {c : Nat} (ring : RingQueue Unsent s.txSlots s.txTail s.txHead c)
    (length_eq : s.txSlots.length = s.params.txQ) (slots_ok : ∀ t ∈ s.txSlots, TxSlotOk t)
    (sending_at_tail : ∀ (i : Nat) (t : TxSlot), s.txSlots[i]? = some t → t.state = .sending → i = s.txTail)
    (suspended_iff : s.rxTxSuspended = true ↔ ∃ t, s.txSlots[s.txTail]? = some t ∧ t.state = .sending)
    (pin_sending : ∀ t, s.txSlots[s.txTail]? = some t → t.state = .sending →
      s.txPinLevel = t.txBits.getD (t.bitIndex - 1) false)
    (pin_idle : s.rxTxSuspended = false → s.txPinLevel = true)
    (timer : s.txTimerEnabled = false → ∀ t ∈ s.txSlots, t.state = .done) : TxOn s where
  length_eq := length_eq
  head_lt := by rw [← length_eq]; exact ring.head_lt
  tail_lt := by rw [← length_eq]; exact ring.tail_lt
  slots_ok := slots_ok
  sending_at_tail := sending_at_tail
  suspended_iff := suspended_iff.trans (exists_sending_iff sending_at_tail).symm
  pin_sending := pin_sending
  pin_idle := pin_idle
  queue := by
    refine ⟨c, length_eq ▸ ring.count_le, length_eq ▸ ring.head_eq, fun i t ht => ?_⟩
    rw [txOffset_eq_ringOffset, ← length_eq]
    exact ring.used_iff i t ht
  timer := timer

theorem TxOn.of_sameTx (on : TxOn s) (build : SameBuild s s') (tx : SameTx s s') : TxOn s' := by
  obtain ⟨c, ring⟩ := on.ring
  refine .of_ring (c := c) ?_ ?_ ?_ ?_ ?_ ?_ ?_ ?_
  · rw [tx.slots, tx.tail, tx.head]; exact ring
  · rw [tx.slots, build.params]; exact on.length_eq
  · rw [tx.slots]; exact on.slots_ok
  · rw [tx.slots, tx.tail]; exact on.sending_at_tail
  · rw [tx.suspended, tx.slots, tx.tail]; exact on.suspended_iff_tail
  · rw [tx.slots, tx.tail, tx.pin]; exact on.pin_sending
  · rw [tx.suspended, tx.pin]; exact on.pin_idle
  · rw [tx.timer, tx.slots]; exact on.timer

/-! ### The effects on the pool -/

/-- The pool after SETUP (44_rx_queue.md R260). -/
theorem setupState_txOn (rxPin txPin capacity now : Word) (r : Result) (legal : LegalParams s.params) :
    TxOn ((setupState rxPin txPin capacity now s).answer r) := by
  have free {i : Nat} {t : TxSlot} (ht : (List.replicate s.params.txQ freeSlot)[i]? = some t) : t = freeSlot :=
    List.eq_of_mem_replicate (List.mem_of_getElem? ht)
  have ring : RingQueue Unsent (List.replicate s.params.txQ freeSlot) 0 0 0 :=
    { tail_lt := by rw [List.length_replicate]; exact legal.txQ_pos
      count_le := Nat.zero_le _
      head_eq := (Nat.zero_mod _).symm
      used_iff := fun i t ht => by simp [free ht, Unsent, freeSlot] }
  refine .of_ring (c := 0) ring List.length_replicate ?_ ?_ ?_ ?_ (fun _ => rfl) (fun _ t ht => ?_)
  · intro t ht
    rw [List.eq_of_mem_replicate ht]
    exact freeSlot_txSlotOk
  · intro i t ht hs
    rw [free ht] at hs
    cases hs
  · refine iff_of_false Bool.false_ne_true ?_
    rintro ⟨t, ht, hs⟩
    rw [free ht] at hs
    cases hs
  · intro t ht hs
    rw [free ht] at hs
    cases hs
  · rw [List.eq_of_mem_replicate ht]
    rfl

/-- A frame queued at `txHead`, whose slot was free (45_tx.md R302). -/
theorem queueFrame_txOn (on : TxOn s) (iden : BitVec 12) (flags : BitVec 4) {data : List Byte} {len : Byte}
    (length_ok : badLength data len = false) {t : TxSlot} (at_head : s.txSlots[s.txHead]? = some t)
    (free : t.state = .done) : TxOn (queueFrame iden flags data len s) := by
  obtain ⟨c, ring⟩ := on.ring
  have not_sending {i : Nat} {u : TxSlot}
      (hu : (s.txSlots.set s.txHead (queuedSlot (buildFrame iden flags data len) len))[i]? = some u)
      (hs : u.state = .sending) : s.txSlots[i]? = some u := by
    rcases getElem?_set_cases hu with ⟨-, rfl, -⟩ | ⟨-, hu⟩
    · cases hs
    · exact hu
  refine .of_ring (c := c + 1) ?_ ?_ ?_ ?_ ?_ ?_ on.pin_idle ?_
  · rw [queueFrame_txSlots, queueFrame_txTail, queueFrame_txHead, ← on.length_eq]
    exact ring.push (ring.count_lt at_head (fun h => h free)) (by simp [Unsent, queuedSlot])
  · simpa using on.length_eq
  · intro u hu
    rcases List.mem_or_eq_of_mem_set hu with hu | rfl
    · exact on.slots_ok u hu
    · exact queuedSlot_txSlotOk iden flags length_ok
  · intro i u hu hs
    exact on.sending_at_tail i u (not_sending hu hs) hs
  · refine on.suspended_iff_tail.trans ⟨?_, ?_⟩
    · rintro ⟨u, hu, hs⟩
      refine ⟨u, ?_, hs⟩
      have : s.txHead ≠ s.txTail := by
        intro e
        rw [e] at at_head
        cases at_head.symm.trans hu
        simp [hs] at free
      rw [queueFrame_txSlots, queueFrame_txTail, List.getElem?_set_ne this]
      exact hu
    · rintro ⟨u, hu, hs⟩
      exact ⟨u, not_sending hu hs, hs⟩
  · intro u hu hs
    exact on.pin_sending u (not_sending hu hs) hs
  · intro off
    cases off

/-- The slot at `txTail` holds `u`, a frame that is still to send, and the pin and the RX suspension go with it. -/
structure TailSet (s : State) (u : TxSlot) (s' : State) : Prop where
  slots : s'.txSlots = s.txSlots.set s.txTail u
  head : s'.txHead = s.txHead
  tail : s'.txTail = s.txTail
  timer : s'.txTimerEnabled = s.txTimerEnabled
  ok : TxSlotOk u
  unsent : u.state ≠ .done
  suspended_iff : s'.rxTxSuspended = true ↔ u.state = .sending
  pin_sending : u.state = .sending → s'.txPinLevel = u.txBits.getD (u.bitIndex - 1) false
  pin_idle : s'.rxTxSuspended = false → s'.txPinLevel = true

theorem TailSet.txOn {t u : TxSlot} (h : TailSet s u s') (on : TxOn s) (build : SameBuild s s')
    (at_tail : s.txSlots[s.txTail]? = some t) (unsent : t.state ≠ .done) : TxOn s' := by
  obtain ⟨c, ring⟩ := on.ring
  have at_tail' : s'.txSlots[s'.txTail]? = some u := by
    rw [h.slots, h.tail, List.getElem?_set_self (on.length_eq ▸ on.tail_lt)]
  refine .of_ring (c := c) ?_ ?_ ?_ ?_ ?_ ?_ h.pin_idle ?_
  · rw [h.slots, h.tail, h.head]
    refine ring.set fun y hy => ?_
    cases at_tail.symm.trans hy
    exact iff_of_true h.unsent unsent
  · rw [build.txLength, build.params]; exact on.length_eq
  · rw [h.slots]
    intro x hx
    rcases List.mem_or_eq_of_mem_set hx with hx | rfl
    · exact on.slots_ok x hx
    · exact h.ok
  · rw [h.slots, h.tail]
    intro i x hx hs
    rcases getElem?_set_cases hx with ⟨rfl, -, -⟩ | ⟨-, hx⟩
    · rfl
    · exact on.sending_at_tail i x hx hs
  · rw [h.suspended_iff, at_tail']
    simp
  · intro x hx hs
    cases at_tail'.symm.trans hx
    exact h.pin_sending hs
  · rw [h.timer]
    intro off
    exact absurd (on.timer off t (List.mem_of_getElem? at_tail)) unsent

section
variable {t : TxSlot}

theorem startFrame_tailSet (ok : TxSlotOk t) (waiting : t.state = .waiting) :
    TailSet s { t with state := .sending, bitIndex := 1 } (startFrame t s) where
  slots := rfl
  head := rfl
  tail := rfl
  timer := rfl
  ok := by
    have unsent : t.state ≠ .done := by simp [waiting]
    obtain ⟨-, -, length⟩ := ok.of_queued unsent
    exact ok.progress unsent rfl rfl rfl rfl (fun e => by cases e) (fun _ => ⟨le_rfl, show 1 ≤ t.nTxBits by omega⟩)
  unsent := by simp
  suspended_iff := by simp
  pin_sending _ := rfl
  pin_idle e := by cases e

theorem deferFrame_tailSet (on : TxOn s) (at_tail : s.txSlots[s.txTail]? = some t) (waiting : t.state = .waiting) :
    TailSet s t.noteDeferred (deferFrame t s) where
  slots := rfl
  head := rfl
  tail := rfl
  timer := rfl
  ok := by
    have ok := on.slots_ok t (List.mem_of_getElem? at_tail)
    exact ok.progress (by simp [waiting]) rfl rfl rfl rfl ok.of_waiting ok.of_sending
  unsent := by simp [TxSlot.noteDeferred, waiting]
  suspended_iff := by
    refine on.suspended_iff_tail.trans ?_
    simp [at_tail, TxSlot.noteDeferred]
  pin_sending e := by simp [TxSlot.noteDeferred, waiting] at e
  pin_idle := on.pin_idle

theorem collide_tailSet (ok : TxSlotOk t) (sending : t.state = .sending) (k : Nat) (now : Word) :
    TailSet s { t.noteCollision k with state := .waiting, bitIndex := 0 } (collide t k now s) where
  slots := rfl
  head := rfl
  tail := rfl
  timer := rfl
  ok := ok.progress (by simp [sending]) rfl rfl rfl rfl (fun _ => rfl) (fun e => by cases e)
  unsent := by simp
  suspended_iff := by simp
  pin_sending e := by cases e
  pin_idle _ := rfl

theorem nextBit_tailSet (ok : TxSlotOk t) (sending : t.state = .sending) (more : t.bitIndex ≠ t.nTxBits)
    (suspended : s.rxTxSuspended = true) : TailSet s { t with bitIndex := t.bitIndex + 1 } (nextBit t s) where
  slots := rfl
  head := rfl
  tail := rfl
  timer := rfl
  ok := by
    obtain ⟨-, upto⟩ := ok.of_sending sending
    exact ok.progress (by simp [sending]) rfl rfl rfl rfl (fun e => by simp [sending] at e)
      (fun _ => ⟨Nat.le_add_left 1 t.bitIndex, show t.bitIndex + 1 ≤ t.nTxBits by omega⟩)
  unsent := by simp [sending]
  suspended_iff := by simp [sending, suspended]
  pin_sending _ := rfl
  pin_idle e := by simp [suspended] at e

/-- The end of a transmission (45_tx.md R314): the queue loses its first frame, no slot is SENDING, and the timer stops when
the queue is empty. -/
theorem finishFrame_txOn {t₀ : TxSlot} {now : Word} (on : TxOn s) (at_tail : s.txSlots[s.txTail]? = some t₀)
    (sending₀ : t₀.state = .sending) (ok : TxSlotOk t) (sending : t.state = .sending)
    (h : finishFrame t now s = .next s') : TxOn s' := by
  obtain ⟨u, hu, rfl⟩ := finishFrame_next h
  obtain ⟨c, ring⟩ := on.ring
  have unsent₀ : Unsent t₀ := by simp [Unsent, sending₀]
  have sent : ¬Unsent { t with state := .done } := by simp [Unsent]
  have ring' := ring.pop ((ring.used_tail_iff at_tail).mp unsent₀) sent
  rw [on.length_eq] at ring'
  have none_sending {i : Nat} {x : TxSlot} (hx : (s.txSlots.set s.txTail { t with state := .done })[i]? = some x) :
      x.state ≠ .sending := by
    intro hs
    rcases getElem?_set_cases hx with ⟨-, rfl, -⟩ | ⟨hne, hx⟩
    · cases hs
    · exact hne (on.sending_at_tail i x hx hs)
  refine .of_ring (c := c - 1) ring' ?_ ?_ ?_ ?_ ?_ (fun _ => rfl) ?_
  · simpa using on.length_eq
  · intro x hx
    rcases List.mem_or_eq_of_mem_set hx with hx | rfl
    · exact on.slots_ok x hx
    · exact ok.progress (by simp [sending]) rfl rfl rfl rfl (fun e => by cases e) (fun e => by cases e)
  · intro i x hx hs
    exact absurd hs (none_sending hx)
  · refine iff_of_false Bool.false_ne_true ?_
    rintro ⟨x, hx, hs⟩
    exact none_sending hx hs
  · intro x hx hs
    exact absurd hs (none_sending hx)
  · intro off x hx
    have not_waiting : u.state ≠ .waiting := by
      intro waiting
      simp only [waiting, if_true] at off
      exact unsent₀ (on.timer off t₀ (List.mem_of_getElem? at_tail))
    have done : ¬Unsent u := by
      cases e : u.state with
      | waiting => exact absurd e not_waiting
      | sending => exact absurd e (none_sending hu)
      | done => simp [Unsent, e]
    have empty : c - 1 = 0 := Nat.eq_zero_of_not_pos fun hpos => done ((ring'.used_tail_iff hu).mpr hpos)
    obtain ⟨i, hi⟩ := List.mem_iff_getElem?.mp hx
    have := ring'.used_iff i x hi
    rw [empty] at this
    simpa [Unsent] using this

theorem advanceBit_txOn {t₀ : TxSlot} {now : Word} (on : TxOn s) (at_tail : s.txSlots[s.txTail]? = some t₀)
    (sending₀ : t₀.state = .sending) (ok : TxSlotOk t) (sending : t.state = .sending)
    (h : advanceBit t now s = .next s') : TxOn s' := by
  rcases advanceBit_next h with ⟨-, h⟩ | ⟨more, rfl⟩
  · exact finishFrame_txOn on at_tail sending₀ ok sending h
  · have suspended := on.suspended_iff_tail.mpr ⟨t₀, at_tail, sending₀⟩
    exact (nextBit_tailSet ok sending more suspended).txOn on (txOnly_nextBit s t).toSameBuild at_tail (by simp [sending₀])

/-- A delivered tick (R305 to R314). -/
theorem tickHandler_txOn {sample : Bit} {ts : Stamp} (on : TxOn s) (h : tickHandler sample ts s = .next s') : TxOn s' := by
  obtain ⟨t, at_tail, hcase⟩ := tickHandler_next h
  have ok := on.slots_ok t (List.mem_of_getElem? at_tail)
  rcases hcase with ⟨done, rfl⟩ | ⟨waiting, -, rfl⟩ | ⟨waiting, -, rfl⟩ | ⟨sending, h⟩
  · obtain ⟨c, ring⟩ := on.ring
    refine { on with timer := fun _ x hx => ?_ }
    have empty : c = 0 := Nat.eq_zero_of_not_pos fun hpos => (ring.used_tail_iff at_tail).mpr hpos done
    obtain ⟨i, hi⟩ := List.mem_iff_getElem?.mp hx
    have := ring.used_iff i x hi
    rw [empty] at this
    simpa [Unsent] using this
  · exact (startFrame_tailSet ok waiting).txOn on (txOnly_startFrame s t).toSameBuild at_tail (by simp [waiting])
  · exact (deferFrame_tailSet on at_tail waiting).txOn on (txOnly_deferFrame s t).toSameBuild at_tail (by simp [waiting])
  · rcases sendTick_next h with ⟨-, -, -, rfl⟩ | ⟨-, -, -, h⟩ | ⟨-, h⟩
    · exact (collide_tailSet ok sending _ _).txOn on (txOnly_collide s t _ _).toSameBuild at_tail (by simp [sending])
    · have on' : TxOn s.noteBitError := { on with }
      have ok' : TxSlotOk t.noteBitError := { ok with }
      exact advanceBit_txOn on' at_tail sending ok' sending h
    · exact advanceBit_txOn on at_tail sending ok sending h

end

/-! ### The invariant after each effect -/

theorem TxInv.withInput (inv : TxInv s) (rest : List Byte) : TxInv { s with input := rest } :=
  ⟨inv.off, fun on => { inv.on on with }, fun h hs => { inv.send_ok h hs with }⟩

theorem SendOk.of_build {h : Send} (ok : SendOk s h) (build : SameBuild s s') : SendOk s' h where
  configured := build.configured.trans ok.configured
  length_ok := ok.length_ok
  slot_lt := by rw [build.params]; exact ok.slot_lt

theorem TxInv.of_same (inv : TxInv s) (build : SameBuild s s') (tx : SameTx s s')
    (send_ok : ∀ h, s'.send = some h → SendOk s' h) : TxInv s' where
  off hc := by
    rw [tx.suspended, tx.timer, tx.pin, tx.slots]
    exact inv.off (build.configured.symm.trans hc)
  on hc := (inv.on (build.configured.symm.trans hc)).of_sameTx build tx
  send_ok := send_ok

/-- The invariant holds after every operation of the receive side. -/
theorem TxInv.of_rxOnly (inv : TxInv s) (h : RxOnly s s') : TxInv s' :=
  inv.of_same h.toSameBuild h.toSameTx fun p hp => (inv.send_ok p (h.send.symm.trans hp)).of_build h.toSameBuild

theorem TxInv.of_configured (on : TxOn s) (hc : s.configured = true) (send_ok : ∀ h, s.send = some h → SendOk s h) :
    TxInv s := ⟨fun off => by simp [hc] at off, fun _ => on, send_ok⟩

theorem TxInv.endSend (inv : TxInv s) (ok : Bit) : TxInv (s.endSend ok) :=
  inv.of_same (txOnly_endSend s ok).toSameBuild ⟨rfl, rfl, rfl, rfl, rfl, rfl⟩ fun h hs => by cases hs

theorem TxInv.noteTxDropped (inv : TxInv s) : TxInv s.noteTxDropped := inv.of_rxOnly { RxOnly.refl s with }

theorem TxInv.waitSend (inv : TxInv s) {h : Send} (ok : SendOk s h) (ms : Word) : TxInv (s.waitSend h ms) := by
  refine inv.of_same (txOnly_waitSend s h ms).toSameBuild ⟨rfl, rfl, rfl, rfl, rfl, rfl⟩ fun p hp => ?_
  cases hp
  exact { ok with }

theorem TxInv.sendQueued (inv : TxInv s) {h : Send} (ok : SendOk s h) {i : Nat} (hi : i < s.params.txQ) (ms : Word) :
    TxInv (s.sendQueued h i ms) := by
  refine inv.of_same (txOnly_sendQueued s h i ms).toSameBuild ⟨rfl, rfl, rfl, rfl, rfl, rfl⟩ fun p hp => ?_
  cases hp
  exact { ok with slot_lt := hi }

/-- An attempt that queues a frame keeps the invariant (R302). -/
theorem TxInv.of_queued {iden : BitVec 12} {flags : BitVec 4} {data : List Byte} {len : Byte} {u : State} (inv : TxInv s)
    (h : enqueue iden flags data len s = .queued u) : SameBuild s u ∧ TxInv u := by
  obtain ⟨hc, hb, ⟨t, at_head, free⟩, rfl⟩ := enqueue_queued h
  have build := (txOnly_queueFrame s iden flags data len).toSameBuild
  refine ⟨build, .of_configured (queueFrame_txOn (inv.on hc) iden flags hb at_head free) hc fun p hp => ?_⟩
  exact (inv.send_ok p hp).of_build build

/-- A pass of a blocking send keeps the invariant (R303, R304). -/
theorem sendPass_txInv {h : Send} {ms : Word} (inv : TxInv s) (ok : SendOk s h) (run : sendPass h ms s = .next s') :
    TxInv s' := by
  rcases sendPass_next run with ⟨-, run⟩ | ⟨-, run⟩
  · rcases waitSlotPass_next run with ⟨u, hu, ⟨-, rfl⟩ | ⟨-, rfl⟩⟩ | ⟨-, ⟨-, rfl⟩ | ⟨-, rfl⟩⟩
    · exact (inv.of_queued hu).2.endSend true
    · obtain ⟨build, inv'⟩ := inv.of_queued hu
      exact inv'.sendQueued (ok.of_build build) (by rw [build.params]; exact (inv.on ok.configured).head_lt) ms
    · exact inv.noteTxDropped.endSend false
    · exact inv.waitSend ok ms
  · obtain ⟨t, -, ⟨-, rfl⟩ | ⟨-, -, rfl⟩ | ⟨-, -, rfl⟩⟩ := waitDonePass_next run
    · exact inv.endSend true
    · exact inv.endSend false
    · exact inv.waitSend ok ms

theorem tickEnabled_configured (h : tickEnabled s = true) : s.configured = true := by
  simp only [tickEnabled, Bool.and_eq_true] at h
  exact h.1

/-- A tick leaves the send under way to the host. -/
theorem tickHandler_send {sample : Bit} {ts : Stamp} (h : tickHandler sample ts s = .next s') : s'.send = s.send := by
  have advance {t : TxSlot} {u : State} (h : advanceBit t ts.now u = .next s') : s'.send = u.send := by
    rcases advanceBit_next h with ⟨-, h⟩ | ⟨-, rfl⟩
    · obtain ⟨v, -, rfl⟩ := finishFrame_next h
      rfl
    · rfl
  obtain ⟨t, -, ⟨-, rfl⟩ | ⟨-, -, rfl⟩ | ⟨-, -, rfl⟩ | ⟨-, h⟩⟩ := tickHandler_next h
  · rfl
  · rfl
  · rfl
  · rcases sendTick_next h with ⟨-, -, -, rfl⟩ | ⟨-, -, -, h⟩ | ⟨-, h⟩
    · rfl
    · exact advance (u := s.noteBitError) h
    · exact advance h

theorem Effect.txInv (e : Effect s s') (legal : LegalParams s.params) (inv : TxInv s) : TxInv s' := by
  cases e with
  | quiet rx => exact inv.of_rxOnly rx
  | setup rxPin txPin capacity now r off _ e =>
    subst e
    refine .of_configured (setupState_txOn rxPin txPin capacity now r legal) rfl fun h hs => ?_
    have on := (inv.send_ok h hs).configured
    simp [off] at on
  | receive slot r _ _ _ e => subst e; exact inv.of_rxOnly ((rxOnly_takeFrame s).trans (rxOnly_answer _ r))
  | edge _ _ _ run => exact inv.of_rxOnly (edgeHandler_rxOnly run)
  | timeout _ _ run => exact inv.of_rxOnly (ackTimeoutHandler_rxOnly run)
  | enqueue iden flags data len u r run e =>
    subst e
    exact (inv.of_queued run).2.of_rxOnly (rxOnly_answer u r)
  | refusedSend e => subst e; exact inv.endSend false
  | firstPass h ms hc length_ok slot run =>
    exact sendPass_txInv inv ⟨hc, length_ok, slot ▸ legal.txQ_pos⟩ run
  | laterPass h ms under_way run => exact sendPass_txInv inv (inv.send_ok h under_way) run
  | tick sample ts enabled run =>
    have hc := tickEnabled_configured enabled
    have build := (tickHandler_txOnly run).toSameBuild
    refine .of_configured (tickHandler_txOn (inv.on hc) run) (build.configured.trans hc) fun h hs => ?_
    exact (inv.send_ok h ((tickHandler_send run).symm.trans hs)).of_build build

end

/-- Settles O54: the invariant holds after each effect a step can have. -/
theorem everyStepKeepsTheTransmitInvariant : Obligations.EveryStepKeepsTheTransmitInvariant := by
  intro s s' legal inv h
  obtain ⟨rest, e⟩ := step_effect h
  exact e.txInv legal (inv.withInput rest)

end Sys2Proof.Machine
end

section
/-! SUPPORT. What each operation may write (20_memory.md R89), said once per engine and once per operation code: which
fields it leaves alone, and which buffers of the two pools it writes with what. Nothing here assumes an invariant. -/

namespace Sys2Proof.Machine

open Sys2Proof.Config

/-! ### What the receive engine may write -/

/-- The state with every field blanked that the receive engine writes once the edge's prologue is done: states that agree
on this differ in those fields only. -/
def State.outsideRx (s : State) : State :=
  { s with
    readBits := 0
    nBits := 0
    jitter := 0
    ackArmed := false
    ackDeadline := 0
    rxSlots := []
    head := 0
    overrun := false
    rxStats := ⟨0, 0, 0, 0⟩ }

/-- The index of the next byte of the frame in a slot; a search stores the SOF byte (42_rx_decoder.md R187, R191). -/
def frameEnd (slot : RxSlot) : Nat := if slot.state = .searching then 0 else slot.size

theorem frameEnd_of_not_searching {slot : RxSlot} (h : slot.state ≠ .searching) : frameEnd slot = slot.size := if_neg h

/-- The buffer of `b` is that of `slot`, with at most the next byte of the frame stored. -/
def Stores (slot b : RxSlot) : Prop :=
  b.bytes = slot.bytes ∨ ∃ v, frameEnd slot < maxFrame ∧ b.bytes = writeByte slot.bytes (frameEnd slot) v

/-- What the receive engine can write to the pool, `slot` being the one at `head`. -/
inductive PoolWrite (slot : RxSlot) (s s' : State) : Prop
  /-- the frame goes on, ends its search, or changes nothing -/
  | stored (b : RxSlot) (slots : s'.rxSlots = s.rxSlots.set s.head b) (bytes : Stores slot b)
  /-- the frame completes and is queued, or is dropped (R196, R197) -/
  | completed (b : RxSlot) (slots : s'.rxSlots = s.rxSlots.set s.head b) (bytes : b.bytes = slot.bytes ∨ b = vacantSlot)
      (count : s'.rxStats.rxCount = s.rxStats.rxCount + 1)
  /-- the frame completes and is queued, and the slot after it is cleared (R198) -/
  | cleared (b : RxSlot) (slots : s'.rxSlots = (s.rxSlots.set s.head b).set ((s.head + 1) % s.q.toNat) vacantSlot)
      (bytes : b.bytes = slot.bytes) (count : s'.rxStats.rxCount = s.rxStats.rxCount + 1)

/-- All that the receive engine may write, `slot` being the one at `head`. -/
structure RxWrites (slot : RxSlot) (s s' : State) : Prop where
  outside : s'.outsideRx = s.outsideRx
  overrun : s'.overrun = false → s.overrun = false
  pool : PoolWrite slot s s'

/-- The two states differ in the bit accumulator and the ACK timer at most. -/
structure DecoderOnly (s u : State) : Prop where
  outside : u.outsideRx = s.outsideRx
  overrun : u.overrun = s.overrun
  slots : u.rxSlots = s.rxSlots
  head : u.head = s.head
  q : u.q = s.q
  stats : u.rxStats = s.rxStats

section
variable {slot : RxSlot} {s u s' : State}

theorem RxWrites.of_decoderOnly (h : DecoderOnly s u) (w : RxWrites slot u s') : RxWrites slot s s' where
  outside := w.outside.trans h.outside
  overrun off := h.overrun.symm.trans (w.overrun off)
  pool := by
    cases w.pool with
    | stored b slots bytes => exact .stored b (by rw [slots, h.slots, h.head]) bytes
    | completed b slots bytes count =>
      exact .completed b (by rw [slots, h.slots, h.head]) bytes (by rw [count, h.stats])
    | cleared b slots bytes count =>
      exact .cleared b (by rw [slots, h.slots, h.head, h.q]) bytes (by rw [count, h.stats])

/-- The engine may go on with a slot in another state and with other flags, if the buffer and the place of its next byte
are the same. -/
theorem RxWrites.of_slot {a : RxSlot} (w : RxWrites a s s') (bytes : a.bytes = slot.bytes)
    (place : frameEnd a = frameEnd slot) : RxWrites slot s s' where
  outside := w.outside
  overrun := w.overrun
  pool := by
    cases w.pool with
    | stored b slots stores => exact .stored b slots (by rwa [Stores, bytes, place] at stores)
    | completed b slots kept count => exact .completed b slots (bytes ▸ kept) count
    | cleared b slots kept count => exact .cleared b slots (kept.trans bytes) count

theorem RxWrites.putRx {b : RxSlot} (stores : Stores slot b) : RxWrites slot s (s.putRx s.head b) :=
  ⟨rfl, id, .stored b rfl stores⟩

theorem RxWrites.refl (at_head : s.rxSlots[s.head]? = some slot) : RxWrites slot s s :=
  ⟨rfl, id, .stored slot (set_eq_self_of_getElem? at_head).symm (.inl rfl)⟩

theorem endSearch_writes : RxWrites slot s (endSearch slot s) := ⟨rfl, id, .stored _ rfl (.inl rfl)⟩

theorem vacantEdge_writes (level : Bit) (at_head : s.rxSlots[s.head]? = some slot) :
    RxWrites slot s (vacantEdge level slot s) := by
  cases level
  · exact ⟨rfl, id, .stored _ rfl (.inl rfl)⟩
  · exact .refl at_head

/-- Completion writes no byte of the frame (R196 to R198). -/
theorem complete_writes {result : RxResult} {ms : Word} (h : complete result ms slot s = .next s') :
    RxWrites slot s s' := by
  rcases complete_next h with ⟨-, rfl⟩ | ⟨-, h⟩
  · exact
      { outside := by simp [State.outsideRx]
        overrun := by simp
        pool := .completed vacantSlot (by simp) (.inr rfl) (by simp [State.noteDropped]) }
  · obtain ⟨next, -, rfl⟩ := advanceHead_next h
    unfold clearHead
    split
    · exact
        { outside := by simp [State.outsideRx]
          overrun := by simp
          pool := .completed (completedSlot result ms slot s) (by simp) (.inl rfl) (by simp [State.noteQueued]) }
    · exact
        { outside := by simp [State.outsideRx]
          overrun := by simp
          pool := .cleared (completedSlot result ms slot s) (by simp) rfl
            (by simp [State.noteQueued, State.noteOverrun]) }

theorem sofGroup_writes (searching : slot.state = .searching) (g : Group) : RxWrites slot s (sofGroup g slot s) := by
  have place : frameEnd slot = 0 := if_pos searching
  rcases sofGroup_cases g slot s with ⟨-, e⟩ | ⟨-, e⟩ <;> rw [e]
  · exact .putRx (.inr ⟨sofByte, by simp [place], by rw [place]⟩)
  · exact endSearch_writes

theorem loadGroup_writes {g : Group} {ts : Stamp} (hs : slot.state ≠ .searching)
    (h : loadGroup g ts slot s = .next s') : RxWrites slot s s' := by
  have place := frameEnd_of_not_searching hs
  have stores (room : slot.size < maxFrame) : Stores slot (storeGroup g slot) :=
    .inr ⟨decGroup g, by rwa [place], by rw [place]; rfl⟩
  rcases loadGroup_next h with ⟨-, h⟩ | ⟨room, -, -, rfl⟩ | ⟨room, -, rfl⟩
  · exact complete_writes h
  · exact ⟨rfl, id, .stored { storeGroup g slot with state := .waitingAck } rfl (stores room)⟩
  · exact .putRx (stores room)

theorem takeGroup_writes {ts : Stamp} (h : takeGroup ts slot s = .next s') : RxWrites slot s s' := by
  have decoder : DecoderOnly s (dropGroup s) := ⟨rfl, rfl, rfl, rfl, rfl, rfl⟩
  rcases takeGroup_next h with ⟨searching, rfl⟩ | ⟨hs, h⟩
  · exact (sofGroup_writes searching _).of_decoderOnly decoder
  · exact (loadGroup_writes hs h).of_decoderOnly decoder

/-- The correction step may flag a bit; it writes nothing else of the slot (R188, R189). -/
theorem correctRun_slot (p : Params) (v : Bit) (o : Nat) (r : BitCount) (slot : RxSlot) :
    ∃ flag, (correctRun p v o r slot).slot = { slot with uncertain := flag } := by
  unfold correctRun
  split
  · exact ⟨slot.uncertain, rfl⟩
  · next c _ =>
    dsimp only
    split
    · rcases markUncertain_cases o c.bits slot with e | ⟨i, -, e⟩
      · exact ⟨slot.uncertain, e⟩
      · exact ⟨some i, e⟩
    · exact ⟨slot.uncertain, rfl⟩

theorem acceptRun_writes {v : Bit} {r : BitCount} {ts : Stamp} (h : acceptRun v r ts slot s = .next s') :
    RxWrites slot s s' := by
  obtain ⟨flag, e⟩ := correctRun_slot s.params v s.nBits r slot
  have run := acceptRun_next h
  dsimp only at run
  rw [e] at run
  have decoder (n : Nat) (jitter : Int) : DecoderOnly s (appendRun v n jitter s) := ⟨rfl, rfl, rfl, rfl, rfl, rfl⟩
  rcases run with ⟨-, h⟩ | ⟨-, rfl⟩
  · have w := takeGroup_writes h
    exact .of_decoderOnly (decoder _ _) (w.of_slot rfl rfl)
  · exact RxWrites.of_decoderOnly (decoder _ _) (.putRx (.inl rfl))

theorem runStep_writes {level : Bit} {c : Word} {ts : Stamp} (h : runStep level c ts slot s = .next s') :
    RxWrites slot s s' := by
  rcases runStep_next h with ⟨-, -, rfl⟩ | ⟨-, -, h⟩ | ⟨-, h⟩
  · exact endSearch_writes
  · exact complete_writes h
  · exact acceptRun_writes h

theorem cancelTimer_decoderOnly (s : State) : DecoderOnly s (cancelTimer s) := ⟨rfl, rfl, rfl, rfl, rfl, rfl⟩

theorem ackEdge_writes {level : Bit} {c : Word} {ts : Stamp} (waiting : slot.state = .waitingAck)
    (h : ackEdge level c ts slot s = .next s') : RxWrites slot s s' := by
  have place : frameEnd slot = slot.size := frameEnd_of_not_searching (by simp [waiting])
  rcases ackEdge_next h with ⟨-, h⟩ | ⟨-, h⟩
  · have w := complete_writes h
    exact .of_decoderOnly (cancelTimer_decoderOnly s) (w.of_slot rfl rfl)
  · have w := runStep_writes h
    exact .of_decoderOnly (cancelTimer_decoderOnly s) (w.of_slot rfl place.symm)

/-- A delivered edge writes what its prologue writes, and what the engine may (R180, R181). -/
theorem edgeHandler_writes {level : Bit} {ts : Stamp} (h : edgeHandler level ts s = .next s') :
    ∃ slot, s.rxSlots[s.head]? = some slot ∧ RxWrites slot (edgePrologue level ts.now s) s' := by
  obtain ⟨slot, at_head, ⟨-, rfl⟩ | ⟨-, h⟩ | ⟨waiting, h⟩⟩ := edgeHandler_next h
  · exact ⟨slot, at_head, vacantEdge_writes level at_head⟩
  · exact ⟨slot, at_head, runStep_writes h⟩
  · exact ⟨slot, at_head, ackEdge_writes waiting h⟩

/-- The ACK timer's expiry (R194). -/
theorem ackTimeoutHandler_writes {ts : Stamp} (h : ackTimeoutHandler ts s = .next s') :
    ∃ slot, s.rxSlots[s.head]? = some slot ∧ RxWrites slot s s' := by
  obtain ⟨slot, at_head, ⟨-, h⟩ | ⟨-, rfl⟩⟩ := ackTimeoutHandler_next h
  · have w := complete_writes h
    exact ⟨slot, at_head, .of_decoderOnly (cancelTimer_decoderOnly s) (w.of_slot rfl rfl)⟩
  · exact ⟨slot, at_head, .of_decoderOnly (cancelTimer_decoderOnly s) (.refl at_head)⟩

end

/-! ### What the transmit engine may write -/

/-- The state with every field blanked that a tick writes. -/
def State.outsideTick (s : State) : State :=
  { s with
    rxTxSuspended := false
    txTimerEnabled := false
    lastBusActivity := 0
    txSlots := []
    txTail := 0
    txPinLevel := false
    txStats := ⟨0, 0, 0, 0, 0, 0⟩ }

/-- All that a tick may write, `t` being the slot at `txTail`: no byte of a frame, and the timer only to stop it. -/
structure TickWrites (t : TxSlot) (s s' : State) : Prop where
  outside : s'.outsideTick = s.outsideTick
  timer : s'.txTimerEnabled = true → s.txTimerEnabled = true
  pool : ∃ b : TxSlot, s'.txSlots = s.txSlots.set s.txTail b ∧ b.bytes = t.bytes

/-- The state with every field blanked that a pass of a blocking send writes. -/
def State.outsideSend (s : State) : State :=
  { s with
    result := .none
    send := none
    txTimerEnabled := false
    txSlots := []
    txHead := 0
    txStats := ⟨0, 0, 0, 0, 0, 0⟩ }

/-- All that a pass of a blocking send may write: a frame at `txHead`, and the timer only to start it. -/
structure SendWrites (s s' : State) : Prop where
  outside : s'.outsideSend = s.outsideSend
  timer : s'.txTimerEnabled = false → s.txTimerEnabled = false
  pool : s'.txSlots = s.txSlots ∨
    ∃ t : TxSlot, memoryWf t.bytes maxFrame = true ∧ s'.txSlots = s.txSlots.set s.txHead t

section
variable {t : TxSlot} {s s' : State}

theorem advanceBit_writes {now : Word} (h : advanceBit t now s = .next s') : TickWrites t s s' := by
  rcases advanceBit_next h with ⟨-, h⟩ | ⟨-, rfl⟩
  · obtain ⟨u, -, rfl⟩ := finishFrame_next h
    exact ⟨rfl, by simp, _, rfl, rfl⟩
  · exact ⟨rfl, id, _, rfl, rfl⟩

/-- A delivered tick (45_tx.md R305 to R314). -/
theorem tickHandler_writes {sample : Bit} {ts : Stamp} (h : tickHandler sample ts s = .next s') :
    ∃ t, s.txSlots[s.txTail]? = some t ∧ TickWrites t s s' := by
  obtain ⟨t, at_tail, hcase⟩ := tickHandler_next h
  refine ⟨t, at_tail, ?_⟩
  rcases hcase with ⟨-, rfl⟩ | ⟨-, -, rfl⟩ | ⟨-, -, rfl⟩ | ⟨-, h⟩
  · exact ⟨rfl, by simp, t, (set_eq_self_of_getElem? at_tail).symm, rfl⟩
  · exact ⟨rfl, id, _, rfl, rfl⟩
  · exact ⟨rfl, id, _, rfl, rfl⟩
  · rcases sendTick_next h with ⟨-, -, -, rfl⟩ | ⟨-, -, -, h⟩ | ⟨-, h⟩
    · exact ⟨rfl, id, _, rfl, rfl⟩
    · exact { advanceBit_writes h with }
    · exact advanceBit_writes h

/-- A queued frame fits its buffer (R300, R302). -/
theorem queuedSlot_memoryWf (iden : BitVec 12) (flags : BitVec 4) {data : List Byte} {len : Byte}
    (h : badLength data len = false) :
    memoryWf (queuedSlot (buildFrame iden flags data len) len).bytes maxFrame = true :=
  have ok := queuedSlot_txSlotOk iden flags h
  memoryWf_mono ok.bytes_wf ok.size_le

theorem enqueue_writes {iden : BitVec 12} {flags : BitVec 4} {data : List Byte} {len : Byte}
    (h : enqueue iden flags data len s = .queued s') : SendWrites s s' := by
  obtain ⟨-, length_ok, -, rfl⟩ := enqueue_queued h
  exact ⟨rfl, by simp, .inr ⟨_, queuedSlot_memoryWf iden flags length_ok, rfl⟩⟩

theorem endSend_writes (s : State) (ok : Bit) : SendWrites s (s.endSend ok) := ⟨rfl, id, .inl rfl⟩

theorem waitSlotPass_writes {h : Send} {ms : Word} (run : waitSlotPass h ms s = .next s') : SendWrites s s' := by
  rcases waitSlotPass_next run with ⟨u, hu, ⟨-, rfl⟩ | ⟨-, rfl⟩⟩ | ⟨-, ⟨-, rfl⟩ | ⟨-, rfl⟩⟩
  · exact { enqueue_writes hu with }
  · exact { enqueue_writes hu with }
  · exact ⟨rfl, id, .inl rfl⟩
  · exact ⟨rfl, id, .inl rfl⟩

theorem sendPass_writes {h : Send} {ms : Word} (run : sendPass h ms s = .next s') : SendWrites s s' := by
  rcases sendPass_next run with ⟨-, run⟩ | ⟨-, run⟩
  · exact waitSlotPass_writes run
  · obtain ⟨t, -, ⟨-, rfl⟩ | ⟨-, -, rfl⟩ | ⟨-, -, rfl⟩⟩ := waitDonePass_next run <;>
      exact ⟨rfl, id, .inl rfl⟩

theorem startSend_writes {kind : SendKind} {iden : BitVec 12} {flags : BitVec 4} {data : List Byte} {len : Byte}
    {timeoutMs : Word} {ts : Stamp} (h : startSend kind iden flags data len timeoutMs ts s = .next s') :
    SendWrites s s' := by
  rcases startSend_next h with ⟨-, rfl⟩ | ⟨-, -, h⟩
  · exact endSend_writes s false
  · exact waitSlotPass_writes h

end

/-! ### What an operation may write, by its code -/

/-- All that the operation of code `op` may write. -/
inductive OpWrites (s s' : State) (op : Byte) : Prop
  /-- an event that is not delivered -/
  | nothing (eq : s' = s)
  /-- a query, a codec, or a command that is refused -/
  | answer (r : Result) (command : op.getLsbD 7 = false) (eq : s' = s.answer r)
  | setup (code : op = 0x01) (rxPin txPin capacity now : Word) (r : Result)
      (eq : s' = (setupState rxPin txPin capacity now s).answer r)
  /-- ENABLE, DISABLE -/
  | hostEnable (code : op = 0x02 ∨ op = 0x03) (on : Bit) (eq : s' = { s with rxHostEnabled := on, result := .none })
  | receive (code : op = 0x05) (r : Result) (eq : s' = (takeFrame s).answer r)
  | dropPolicy (code : op = 0x06) (threshold : Word) (essential : Pred)
      (eq : s' = { s with dropEnabled := true, dropThreshold := threshold, isEssential := essential, result := .none })
  /-- SEND_PACKET, SYNC_SEND_PACKET -/
  | send (code : op = 0x07 ∨ op = 0x08) (writes : SendWrites s s')
  | repair (code : op = 0x12) (stats : RepairStats) (r : Result) (eq : s' = { s with repairStats := stats, result := r })
  | txEnqueue (code : op = 0x26) (iden : BitVec 12) (flags : BitVec 4) (data : List Byte) (len : Byte) (r : Result)
      (eq : s' = (queueFrame iden flags data len s).answer r)
  | edge (code : op = 0x80) (level : Bit) (now : Word) (slot : RxSlot) (at_head : s.rxSlots[s.head]? = some slot)
      (writes : RxWrites slot (edgePrologue level now s) s')
  | ackTimeout (code : op = 0x81) (slot : RxSlot) (at_head : s.rxSlots[s.head]? = some slot)
      (writes : RxWrites slot s s')
  | tick (code : op = 0x82) (t : TxSlot) (at_tail : s.txSlots[s.txTail]? = some t) (writes : TickWrites t s s')

section
variable {s s' : State}

theorem execSetup_writes {rxPin txPin capacity : Word} {ts : Stamp}
    (h : execSetup rxPin txPin capacity ts s = .next s') : OpWrites s s' 0x01 := by
  rcases execSetup_cases rxPin txPin capacity ts s with ⟨-, e⟩ | ⟨-, -, e⟩ <;> rw [e] at h <;> cases h
  · exact .answer _ rfl rfl
  · exact .setup rfl rxPin txPin capacity ts.now _ rfl

theorem execEnable_writes (h : execEnable s = .next s') : OpWrites s s' 0x02 := by
  unfold execEnable at h
  split at h <;> cases h
  · exact .hostEnable (.inl rfl) true rfl
  · exact .answer _ rfl rfl

theorem execDisable_writes (h : execDisable s = .next s') : OpWrites s s' 0x03 := by
  unfold execDisable at h
  split at h <;> cases h
  · exact .hostEnable (.inr rfl) false rfl
  · exact .answer _ rfl rfl

theorem execAvailable_writes (h : execAvailable s = .next s') : OpWrites s s' 0x04 := by
  unfold execAvailable at h
  split at h
  · split at h <;> cases h
    exact .answer _ rfl rfl
  · cases h
    exact .answer _ rfl rfl

theorem execReceive_writes (h : execReceive s = .next s') : OpWrites s s' 0x05 := by
  rcases execReceive_next h with ⟨slot, -, -, -, rfl⟩ | ⟨-, rfl⟩
  · exact .receive rfl _ rfl
  · exact .answer _ rfl rfl

theorem execSetDropPolicy_writes {threshold : Word} {essential : Pred}
    (h : execSetDropPolicy threshold essential s = .next s') : OpWrites s s' 0x06 := by
  unfold execSetDropPolicy at h
  split at h <;> cases h
  · exact .dropPolicy rfl threshold essential rfl
  · exact .answer _ rfl rfl

/-- REPAIR counts or does not, and answers (43_crc_codec.md R236, R241). -/
theorem execRepair_writes {f : Frame} {interest : Option Pred} (h : execRepair f interest s = .next s') :
    OpWrites s s' 0x12 := by
  unfold execRepair at h
  split at h
  · cases h; exact .answer _ rfl rfl
  · cases hc : repairCounted s f interest <;> simp only [hc] at h <;> split at h <;> cases h
    · exact .answer _ rfl rfl
    · exact .answer _ rfl rfl
    · exact .repair rfl s.noteCorrupt.repairStats _ rfl
    · next t _ => exact .repair rfl (s.noteCorrupt.noteRepaired t.1).repairStats _ rfl

theorem execPreparePacket_writes {iden : BitVec 12} {flags : BitVec 4} {data : List Byte} {len : Byte}
    (h : execPreparePacket iden flags data len s = .next s') : OpWrites s s' 0x25 := by
  unfold execPreparePacket at h
  split at h <;> cases h <;> exact .answer _ rfl rfl

theorem execTxEnqueue_writes {iden : BitVec 12} {flags : BitVec 4} {data : List Byte} {len : Byte}
    (h : execTxEnqueue iden flags data len s = .next s') : OpWrites s s' 0x26 := by
  rcases execTxEnqueue_next h with ⟨u, hu, rfl⟩ | ⟨-, rfl⟩
  · obtain ⟨-, -, -, rfl⟩ := enqueue_queued hu
    exact .txEnqueue rfl iden flags data len _ rfl
  · exact .answer _ rfl rfl

theorem execEvEdge_writes {level : Bit} {ts : Stamp} (h : execEvEdge level ts s = .next s') : OpWrites s s' 0x80 := by
  rcases deliver_next h with ⟨-, h⟩ | ⟨-, e⟩
  · obtain ⟨slot, at_head, w⟩ := edgeHandler_writes h
    exact .edge rfl level ts.now slot at_head w
  · exact .nothing e

theorem execEvAckTimeout_writes {ts : Stamp} (h : execEvAckTimeout ts s = .next s') : OpWrites s s' 0x81 := by
  rcases deliver_next h with ⟨-, h⟩ | ⟨-, e⟩
  · obtain ⟨slot, at_head, w⟩ := ackTimeoutHandler_writes h
    exact .ackTimeout rfl slot at_head w
  · exact .nothing e

theorem execEvTxTick_writes {sample : Bit} {ts : Stamp} (h : execEvTxTick sample ts s = .next s') :
    OpWrites s s' 0x82 := by
  rcases deliver_next h with ⟨-, h⟩ | ⟨-, e⟩
  · obtain ⟨t, at_tail, w⟩ := tickHandler_writes h
    exact .tick rfl t at_tail w
  · exact .nothing e

/-- Every operation writes only what its code allows. -/
theorem exec_writes {i : Instr} (h : exec i s = .next s') : OpWrites s s' i.op := by
  cases i with
  | setup => exact execSetup_writes h
  | enable => exact execEnable_writes h
  | disable => exact execDisable_writes h
  | available => exact execAvailable_writes h
  | receive => exact execReceive_writes h
  | setDropPolicy => exact execSetDropPolicy_writes h
  | sendPacket => exact .send (.inl rfl) (startSend_writes h)
  | syncSendPacket => exact .send (.inr rfl) (startSend_writes h)
  | repair => exact execRepair_writes h
  | preparePacket => exact execPreparePacket_writes h
  | txEnqueue => exact execTxEnqueue_writes h
  | evEdge => exact execEvEdge_writes h
  | evAckTimeout => exact execEvAckTimeout_writes h
  | evTxTick => exact execEvTxTick_writes h
  | getCount | queueSize | getNQueued | getMaxQueued | dumpStats =>
    cases h
    exact .answer _ (by simp [Instr.op]) rfl
  | crc | checkCrc | frameIden | frameFlags | frameDataLen | frameData =>
    cases h
    exact .answer _ (by simp [Instr.op]) rfl
  | manchEncode | manchDecode | eodTest | sofMatch | bitTimeDecode | stuffFrame =>
    cases h
    exact .answer _ (by simp [Instr.op]) rfl

end

end Sys2Proof.Machine
end

section
/-! SUPPORT. The obligations about the fields and bytes of the block (20_memory.md), from what each operation may write. -/

namespace Sys2Proof.Machine

open Sys2Proof.Config

/-! ### The fields -/

/-- Settles O51: each field is outside what the operations write that are not its writers. -/
theorem everyFieldHasItsWriters : Obligations.EveryFieldHasItsWriters := by
  intro i s s' h
  have w := exec_writes h
  generalize i.op = op at w ⊢
  cases w with
  | nothing e => subst e; simp
  | answer r command e => subst e; simp_all
  | setup code rxPin txPin capacity now r e => subst code e; simp [setupState]
  | hostEnable code on e => subst e; rcases code with rfl | rfl <;> simp
  | receive code r e => subst code e; simp
  | dropPolicy code threshold essential e => subst code e; simp
  | repair code stats r e => subst code e; simp
  | txEnqueue code iden flags data len r e => subst code e; simp
  | send code w =>
    have outside := w.outside
    simp only [State.outsideSend, State.mk.injEq] at outside
    rcases code with rfl | rfl <;> simpa [outside] using w.timer
  | edge code level now slot _ w =>
    subst code
    have outside := w.outside
    simp only [State.outsideRx, State.mk.injEq] at outside
    simpa [outside] using w.overrun
  | ackTimeout code slot _ w =>
    subst code
    have outside := w.outside
    simp only [State.outsideRx, State.mk.injEq] at outside
    simpa [outside] using w.overrun
  | tick code t _ w =>
    subst code
    have outside := w.outside
    simp only [State.outsideTick, State.mk.injEq] at outside
    simpa [outside] using w.timer

/-! ### The bytes of both pools -/

section
variable {s s' : State} {slot : RxSlot} {t : TxSlot} {a j k : Nat}

theorem memByte_rx_congr (h : s'.rxSlots = s.rxSlots) (a k : Nat) : s'.memByte .rx a k = s.memByte .rx a k := by
  rw [memByte_rx, memByte_rx, h]

theorem memByte_tx_congr (h : s'.txSlots = s.txSlots) (a k : Nat) : s'.memByte .tx a k = s.memByte .tx a k := by
  rw [memByte_tx, memByte_tx, h]

theorem memByte_rx_of_set (h : s'.rxSlots = s.rxSlots.set j slot) (ne : a ≠ j) :
    s'.memByte .rx a k = s.memByte .rx a k :=
  (memByte_rx_congr (s := s.putRx j slot) h a k).trans (memByte_putRx_other s slot k ne.symm)

theorem memByte_tx_of_set (h : s'.txSlots = s.txSlots.set j t) (ne : a ≠ j) :
    s'.memByte .tx a k = s.memByte .tx a k :=
  (memByte_tx_congr (s := s.putTx j t) h a k).trans (memByte_putTx_other s t k ne.symm)

theorem RxWrites.txSlots_eq (w : RxWrites slot s s') : s'.txSlots = s.txSlots := by
  have h := congrArg State.txSlots w.outside
  exact h

theorem TickWrites.rxSlots_eq (w : TickWrites t s s') : s'.rxSlots = s.rxSlots := by
  have h := congrArg State.rxSlots w.outside
  exact h

theorem SendWrites.rxSlots_eq (w : SendWrites s s') : s'.rxSlots = s.rxSlots := by
  have h := congrArg State.rxSlots w.outside
  exact h

/-- An RX event writes in the slots at `head` and after it only (42_rx_decoder.md R187, R191, R198). -/
theorem PoolWrite.memByte_other (w : PoolWrite slot s s') (ne_head : a ≠ s.head)
    (ne_next : a ≠ (s.head + 1) % s.q.toNat) : s'.memByte .rx a k = s.memByte .rx a k := by
  cases w with
  | stored b slots _ => exact memByte_rx_of_set slots ne_head
  | completed b slots _ _ => exact memByte_rx_of_set slots ne_head
  | cleared b slots _ _ =>
    exact (memByte_rx_of_set (s := s.putRx s.head b) slots ne_next).trans (memByte_putRx_other s b k ne_head.symm)

/-- An RX event that completes no frame stores the next byte of the frame at most (R187, R191). -/
theorem PoolWrite.memByte_incomplete (w : PoolWrite slot s s') (at_head : s.rxSlots[s.head]? = some slot)
    (count : s'.rxStats.rxCount = s.rxStats.rxCount) (ne : a ≠ s.head ∨ k ≠ frameEnd slot) :
    s'.memByte .rx a k = s.memByte .rx a k := by
  have one_more (e : s'.rxStats.rxCount = s.rxStats.rxCount + 1) : False := by
    rw [count] at e
    simp at e
  cases w with
  | completed _ _ _ e => exact (one_more e).elim
  | cleared _ _ _ e => exact (one_more e).elim
  | stored b slots stores =>
    by_cases here : a = s.head
    · subst here
      have byte_kept : readByte b.bytes k = readByte slot.bytes k := by
        rcases stores with e | ⟨v, -, e⟩ <;> rw [e]
        exact readByte_writeByte_other _ v (ne.resolve_left (by simp))
      have hlt := (List.getElem?_eq_some_iff.mp at_head).1
      rw [memByte_rx, memByte_rx, slots, List.getElem?_set_self hlt, at_head]
      exact byte_kept
    · exact memByte_rx_of_set slots here

/-- A tick writes no byte of a frame (45_tx.md R305 to R314). -/
theorem TickWrites.memByte_eq (w : TickWrites t s s') (at_tail : s.txSlots[s.txTail]? = some t) (a k : Nat) :
    s'.memByte .tx a k = s.memByte .tx a k := by
  obtain ⟨b, slots, bytes⟩ := w.pool
  by_cases here : a = s.txTail
  · subst here
    have hlt := (List.getElem?_eq_some_iff.mp at_tail).1
    rw [memByte_tx, memByte_tx, slots, List.getElem?_set_self hlt, at_tail]
    exact congrArg (readByte · k) bytes
  · exact memByte_tx_of_set slots here

/-- A pass of a blocking send writes in the slot at `txHead` only (R302). -/
theorem SendWrites.memByte_other (w : SendWrites s s') (ne : a ≠ s.txHead) :
    s'.memByte .tx a k = s.memByte .tx a k := by
  rcases w.pool with slots | ⟨t, -, slots⟩
  · exact memByte_tx_congr slots a k
  · exact memByte_tx_of_set slots ne

end

/-- Settles O52: an operation writes no other slot than its code allows, and an RX event that completes no frame no other
byte than the frame's next. -/
theorem everyOtherByteOfTheBuffersIsKept : Obligations.EveryOtherByteOfTheBuffersIsKept := by
  intro i s s' h not_setup a k
  have w := exec_writes h
  generalize i.op = op at w not_setup ⊢
  have quiet (rx : s'.rxSlots = s.rxSlots) (tx : s'.txSlots = s.txSlots) :
      s'.memByte .rx a k = s.memByte .rx a k ∧ s'.memByte .tx a k = s.memByte .tx a k :=
    ⟨memByte_rx_congr rx a k, memByte_tx_congr tx a k⟩
  cases w with
  | nothing e => simp [quiet (by rw [e]) (by rw [e])]
  | answer r _ e => simp [quiet (by rw [e]; rfl) (by rw [e]; rfl)]
  | setup code => exact absurd code not_setup
  | hostEnable _ on e => simp [quiet (by rw [e]) (by rw [e])]
  | dropPolicy _ threshold essential e => simp [quiet (by rw [e]) (by rw [e])]
  | repair _ stats r e => simp [quiet (by rw [e]) (by rw [e])]
  | receive code r e =>
    have tx : s'.txSlots = s.txSlots := by rw [e]; rfl
    have rx : s'.rxSlots = s.rxSlots.set s.tail vacantSlot := by rw [e]; rfl
    subst code
    simpa [memByte_tx_congr tx] using fun ne => memByte_rx_of_set rx ne
  | send code w =>
    have other := w.memByte_other (a := a) (k := k)
    rcases code with rfl | rfl <;> simpa [memByte_rx_congr w.rxSlots_eq] using other
  | txEnqueue code iden flags data len r e =>
    have rx : s'.rxSlots = s.rxSlots := by rw [e]; rfl
    have tx : s'.txSlots = s.txSlots.set s.txHead (queuedSlot (buildFrame iden flags data len) len) := by rw [e]; rfl
    subst code
    simpa [memByte_rx_congr rx] using fun ne => memByte_tx_of_set tx ne
  | edge code level now slot at_head w =>
    have tx : s'.txSlots = s.txSlots := w.txSlots_eq
    have other := w.pool.memByte_other (a := a) (k := k)
    have incomplete := w.pool.memByte_incomplete (a := a) (k := k) at_head
    subst code
    refine ⟨by simp, fun _ => memByte_tx_congr tx a k, by simp, by simp, fun _ => other, ?_⟩
    intro x _ count hx
    cases at_head.symm.trans hx
    exact incomplete count
  | ackTimeout code slot _ w =>
    have other := w.pool.memByte_other (a := a) (k := k)
    subst code
    simpa [memByte_tx_congr w.txSlots_eq] using other
  | tick code t at_tail w =>
    subst code
    simp [memByte_rx_congr w.rxSlots_eq, w.memByte_eq at_tail]

/-! ### The form of the buffers -/

section
variable {s s' : State}

theorem BuffersWf.of_slots (wf : BuffersWf s) (rx : s'.rxSlots = s.rxSlots) (tx : s'.txSlots = s.txSlots) :
    BuffersWf s' := ⟨by rw [rx]; exact wf.rx, by rw [tx]; exact wf.tx⟩

/-- A receive slot may be written with a canonical buffer. -/
theorem BuffersWf.of_rxSet (wf : BuffersWf s) {j : Nat} {b : RxSlot} (b_wf : memoryWf b.bytes maxFrame = true)
    (rx : s'.rxSlots = s.rxSlots.set j b) (tx : s'.txSlots = s.txSlots) : BuffersWf s' where
  rx slot hs := by
    rw [rx] at hs
    rcases List.mem_or_eq_of_mem_set hs with hs | rfl
    · exact wf.rx slot hs
    · exact b_wf
  tx := by rw [tx]; exact wf.tx

/-- A transmit slot may be written with a canonical buffer. -/
theorem BuffersWf.of_txSet (wf : BuffersWf s) {j : Nat} {b : TxSlot} (b_wf : memoryWf b.bytes maxFrame = true)
    (rx : s'.rxSlots = s.rxSlots) (tx : s'.txSlots = s.txSlots.set j b) : BuffersWf s' where
  rx := by rw [rx]; exact wf.rx
  tx slot hs := by
    rw [tx] at hs
    rcases List.mem_or_eq_of_mem_set hs with hs | rfl
    · exact wf.tx slot hs
    · exact b_wf

/-- Storing the next byte of a frame keeps the buffer canonical (42_rx_decoder.md R191). -/
theorem Stores.bytes_wf {slot b : RxSlot} (h : Stores slot b) (wf : memoryWf slot.bytes maxFrame = true) :
    memoryWf b.bytes maxFrame = true := by
  rcases h with e | ⟨v, room, e⟩ <;> rw [e]
  · exact wf
  · exact memoryWf_writeByte v wf room

theorem RxWrites.buffersWf {slot : RxSlot} (w : RxWrites slot s s') (at_head : s.rxSlots[s.head]? = some slot)
    (wf : BuffersWf s) : BuffersWf s' := by
  have slot_wf := wf.rx slot (List.mem_of_getElem? at_head)
  cases w.pool with
  | stored b slots stores => exact wf.of_rxSet (stores.bytes_wf slot_wf) slots w.txSlots_eq
  | completed b slots bytes _ =>
    refine wf.of_rxSet ?_ slots w.txSlots_eq
    rcases bytes with e | rfl
    · rw [e]; exact slot_wf
    · rfl
  | cleared b slots bytes _ =>
    have queued : BuffersWf (s.putRx s.head b) := wf.of_rxSet (by rw [bytes]; exact slot_wf) rfl rfl
    exact queued.of_rxSet (memoryWf_nil maxFrame) slots w.txSlots_eq

theorem TickWrites.buffersWf {t : TxSlot} (w : TickWrites t s s') (at_tail : s.txSlots[s.txTail]? = some t)
    (wf : BuffersWf s) : BuffersWf s' := by
  obtain ⟨b, slots, bytes⟩ := w.pool
  exact wf.of_txSet (by rw [bytes]; exact wf.tx t (List.mem_of_getElem? at_tail)) w.rxSlots_eq slots

theorem SendWrites.buffersWf (w : SendWrites s s') (wf : BuffersWf s) : BuffersWf s' := by
  rcases w.pool with slots | ⟨t, t_wf, slots⟩
  · exact wf.of_slots w.rxSlots_eq slots
  · exact wf.of_txSet t_wf w.rxSlots_eq slots

/-- SETUP allocates empty buffers (44_rx_queue.md R260). -/
theorem setupState_buffersWf (rxPin txPin capacity now : Word) (s : State) :
    BuffersWf (setupState rxPin txPin capacity now s) where
  rx slot hs := by rw [List.eq_of_mem_replicate hs]; rfl
  tx t ht := by rw [List.eq_of_mem_replicate ht]; rfl

theorem Effect.buffersWf (e : Effect s s') (wf : BuffersWf s) : BuffersWf s' := by
  cases e with
  | quiet rx tx => exact wf.of_slots tx.slots rx.slots
  | setup rxPin txPin capacity now r _ _ e =>
    subst e
    exact (setupState_buffersWf rxPin txPin capacity now s).of_slots rfl rfl
  | receive slot r _ _ _ e =>
    subst e
    exact wf.of_rxSet (b := vacantSlot) rfl rfl rfl
  | edge level ts _ run =>
    obtain ⟨slot, at_head, w⟩ := edgeHandler_writes run
    exact w.buffersWf at_head (wf.of_slots rfl rfl)
  | timeout ts _ run =>
    obtain ⟨slot, at_head, w⟩ := ackTimeoutHandler_writes run
    exact w.buffersWf at_head wf
  | enqueue iden flags data len u r run e =>
    subst e
    exact ((enqueue_writes run).buffersWf wf).of_slots rfl rfl
  | refusedSend e => subst e; exact (endSend_writes s false).buffersWf wf
  | firstPass _ _ _ _ _ run => exact (sendPass_writes run).buffersWf wf
  | laterPass _ _ _ run => exact (sendPass_writes run).buffersWf wf
  | tick sample ts _ run =>
    obtain ⟨t, at_tail, w⟩ := tickHandler_writes run
    exact w.buffersWf at_tail wf

theorem reset_buffersWf : BuffersWf State.reset where
  rx slot hs := by cases hs
  tx t ht := by cases ht

end

/-- Settles O56: at reset there is no buffer, and each effect a step can have writes canonical buffers only. -/
theorem everyStepKeepsTheBuffersCanonical : Obligations.EveryStepKeepsTheBuffersCanonical := by
  refine ⟨reset_buffersWf, fun s s' wf h => ?_⟩
  obtain ⟨rest, e⟩ := step_effect h
  exact e.buffersWf (wf.of_slots rfl rfl)

end Sys2Proof.Machine
end

section
/-! SUPPORT. The decoder (30_encoding.md R115 to R118): each operand reader accepts exactly what its encoder writes, so the
decoder accepts exactly the records of well-formed operations, and only its last row answers that a code is unassigned. -/

namespace Sys2Proof

/-! ### Operands: what a reader accepts -/

theorem andThen_eq_ok_iff {α β : Type} {p : Parsed α} {k : α → List Byte → Parsed β} {r : β × List Byte} :
    andThen p k = .ok r ↔ ∃ a bs, p = .ok (a, bs) ∧ k a bs = .ok r := by
  rcases p with e | ⟨a, bs⟩ <;> simp

theorem getU8_eq_ok_iff {bs rest : List Byte} {v : Byte} : getU8 bs = .ok (v, rest) ↔ bs = putU8 v ++ rest := by
  cases bs <;> simp [getU8, putU8]

theorem putU16_append (a b : Byte) : putU16 (b ++ a) = [a, b] := by
  have low : (b ++ a).extractLsb' 0 8 = a := BitVec.extractLsb'_append_eq_right
  have high : (b ++ a).extractLsb' 8 8 = b := BitVec.extractLsb'_append_eq_left
  exact congrArg₂ (fun x y => [x, y]) low high

theorem putU32_append (a b c d : Byte) : putU32 (d ++ c ++ b ++ a) = [a, b, c, d] := by
  have byte0 : (d ++ c ++ b ++ a).extractLsb' 0 8 = a := BitVec.extractLsb'_append_eq_right
  have byte1 : (d ++ c ++ b ++ a).extractLsb' 8 8 = b := by
    rw [BitVec.extractLsb'_append_eq_of_le (by decide)]
    exact BitVec.extractLsb'_append_eq_right
  have byte2 : (d ++ c ++ b ++ a).extractLsb' 16 8 = c := by
    rw [BitVec.extractLsb'_append_eq_of_le (by decide), BitVec.extractLsb'_append_eq_of_le (by decide)]
    exact BitVec.extractLsb'_append_eq_right
  have byte3 : (d ++ c ++ b ++ a).extractLsb' 24 8 = d := by
    rw [BitVec.extractLsb'_append_eq_of_le (by decide), BitVec.extractLsb'_append_eq_of_le (by decide)]
    exact BitVec.extractLsb'_append_eq_left
  simp only [putU32]
  exact congrArg₂ List.cons byte0 (congrArg₂ List.cons byte1 (congrArg₂ List.cons byte2 (congrArg (· :: []) byte3)))

theorem getU16_eq_ok_iff {bs rest : List Byte} {v : BitVec 16} :
    getU16 bs = .ok (v, rest) ↔ bs = putU16 v ++ rest := by
  constructor
  · intro h
    unfold getU16 at h
    split at h
    · cases h; rw [putU16_append]; rfl
    · cases h
  · rintro rfl
    exact getU16_put v rest

theorem getU32_eq_ok_iff {bs rest : List Byte} {v : Word} :
    getU32 bs = .ok (v, rest) ↔ bs = putU32 v ++ rest := by
  constructor
  · intro h
    unfold getU32 at h
    split at h
    · cases h; rw [putU32_append]; rfl
    · cases h
  · rintro rfl
    exact getU32_put v rest

/-- A value that fits into `m` bits survives being cut to them. -/
theorem setWidth_setWidth_of_toNat_lt {m n : Nat} (v : BitVec n) (h : v.toNat < 2 ^ m) :
    (v.setWidth m).setWidth n = v := by
  apply BitVec.eq_of_toNat_eq
  rw [BitVec.toNat_setWidth, BitVec.toNat_setWidth, Nat.mod_eq_of_lt h, Nat.mod_eq_of_lt v.isLt]

theorem getU1_eq_ok_iff {bs rest : List Byte} {v : Bit} : getU1 bs = .ok (v, rest) ↔ bs = putU1 v ++ rest := by
  constructor
  · intro h
    obtain ⟨b, tail, hb, h⟩ := andThen_eq_ok_iff.1 h
    rw [getU8_eq_ok_iff.1 hb]
    split at h
    · rename_i zero; cases h; rw [zero]; rfl
    · split at h
      · rename_i one; cases h; rw [one]; rfl
      · cases h
  · rintro rfl
    exact getU1_put v rest

/-- A value that fits into `m` bits is read in its wider form. -/
theorem eq_ok_of_narrow {m n bound : Nat} {p : Parsed (BitVec n)} {v : BitVec m} {rest : List Byte} (bound_eq : bound = 2 ^ m)
    (h : andThen p (fun w bs => if w.toNat < bound then .ok (w.setWidth m, bs) else .error .operandRange) = .ok (v, rest)) :
    p = .ok (v.setWidth n, rest) := by
  obtain ⟨w, tail, hw, h⟩ := andThen_eq_ok_iff.1 h
  split at h
  · rename_i small
    cases h
    rw [hw, setWidth_setWidth_of_toNat_lt w (bound_eq ▸ small)]
  · cases h

theorem getU4_eq_ok_iff {bs rest : List Byte} {v : BitVec 4} : getU4 bs = .ok (v, rest) ↔ bs = putU4 v ++ rest :=
  ⟨fun h => getU8_eq_ok_iff.1 (eq_ok_of_narrow rfl h), fun h => h ▸ getU4_put v rest⟩

theorem getU10_eq_ok_iff {bs rest : List Byte} {v : Group} : getU10 bs = .ok (v, rest) ↔ bs = putU10 v ++ rest :=
  ⟨fun h => getU16_eq_ok_iff.1 (eq_ok_of_narrow rfl h), fun h => h ▸ getU10_put v rest⟩

theorem getU12_eq_ok_iff {bs rest : List Byte} {v : BitVec 12} : getU12 bs = .ok (v, rest) ↔ bs = putU12 v ++ rest :=
  ⟨fun h => getU16_eq_ok_iff.1 (eq_ok_of_narrow rfl h), fun h => h ▸ getU12_put v rest⟩

theorem getMany_eq_ok_iff {n : Nat} {bs xs rest : List Byte} :
    getMany n bs = .ok (xs, rest) ↔ xs.length = n ∧ bs = xs ++ rest := by
  constructor
  · intro h
    induction n generalizing bs xs rest with
    | zero => cases h; exact ⟨rfl, rfl⟩
    | succ n ih =>
      cases bs with
      | nil => cases h
      | cons b bs =>
        obtain ⟨ys, tail, hy, h⟩ := andThen_eq_ok_iff.1 h
        cases h
        obtain ⟨length, rfl⟩ := ih hy
        exact ⟨congrArg (· + 1) length, rfl⟩
  · rintro ⟨rfl, rfl⟩
    exact getMany_append xs rest

theorem getBytes_eq_ok_iff {bs xs rest : List Byte} :
    getBytes bs = .ok (xs, rest) ↔ bs = putBytes xs ++ rest ∧ bytesOk xs = true := by
  constructor
  · intro h
    obtain ⟨n, tail, hn, h⟩ := andThen_eq_ok_iff.1 h
    split at h
    · rename_i small
      obtain ⟨length, rfl⟩ := getMany_eq_ok_iff.1 h
      refine ⟨?_, decide_eq_true (length.trans_le small)⟩
      rw [getU8_eq_ok_iff.1 hn, putBytes, length, BitVec.ofNat_toNat, BitVec.setWidth_eq]
      rfl
    · cases h
  · rintro ⟨rfl, ok⟩
    exact getBytes_put xs rest ok

theorem getUncertain_eq_ok_iff {bs rest : List Byte} {u : Option Nat} :
    getUncertain bs = .ok (u, rest) ↔ bs = putUncertain u ++ rest ∧ uncertainOk u = true := by
  constructor
  · intro h
    obtain ⟨present, tail, hp, h⟩ := andThen_eq_ok_iff.1 h
    rw [getU1_eq_ok_iff.1 hp]
    cases present with
    | false => cases h; exact ⟨rfl, rfl⟩
    | true =>
      obtain ⟨i, tail', hi, h⟩ := andThen_eq_ok_iff.1 h
      split at h
      · rename_i small
        cases h
        refine ⟨?_, decide_eq_true small⟩
        rw [getU16_eq_ok_iff.1 hi, putUncertain, BitVec.ofNat_toNat, BitVec.setWidth_eq, List.append_assoc]
      · cases h
  · rintro ⟨rfl, ok⟩
    exact getUncertain_put u rest ok

theorem getFrame_eq_ok_iff {bs rest : List Byte} {f : Frame} :
    getFrame bs = .ok (f, rest) ↔ bs = putFrame f ++ rest ∧ frameOk f = true := by
  constructor
  · intro h
    obtain ⟨xs, tail, hx, h⟩ := andThen_eq_ok_iff.1 h
    obtain ⟨u, tail', hu, h⟩ := andThen_eq_ok_iff.1 h
    cases h
    obtain ⟨rfl, bytes_ok⟩ := getBytes_eq_ok_iff.1 hx
    obtain ⟨rfl, uncertain_ok⟩ := getUncertain_eq_ok_iff.1 hu
    exact ⟨(List.append_assoc ..).symm, by rw [frameOk, bytes_ok, uncertain_ok]; rfl⟩
  · rintro ⟨rfl, ok⟩
    exact getFrame_put f rest ok

/-- A predicate is read from the tag that is `k` above the tag's own value: `k` is 0 for a `pred`, 1 for an `optpred`. -/
theorem cons_eq_of_getPredBody {n : Nat} {k tag : Byte} {bs rest : List Byte} {p : Pred} (tag_eq : tag = k + BitVec.ofNat 8 n)
    (h : getPredBody n bs = .ok (p, rest)) : tag :: bs = putPredFrom k p ++ rest := by
  subst tag_eq
  unfold getPredBody at h
  split at h
  · cases h; simp [putPredFrom]
  · cases h; rfl
  · obtain ⟨v, tail, hv, h⟩ := andThen_eq_ok_iff.1 h
    cases h; rw [getU12_eq_ok_iff.1 hv]; rfl
  · obtain ⟨m, tail, hm, h⟩ := andThen_eq_ok_iff.1 h
    cases h; rw [getU32_eq_ok_iff.1 hm]; rfl
  · cases h

theorem getPred_eq_ok_iff {bs rest : List Byte} {p : Pred} :
    getPred bs = .ok (p, rest) ↔ bs = putPred p ++ rest := by
  constructor
  · intro h
    obtain ⟨tag, tail, ht, h⟩ := andThen_eq_ok_iff.1 h
    rw [getU8_eq_ok_iff.1 ht]
    exact cons_eq_of_getPredBody (by simp) h
  · rintro rfl
    exact getPred_put p rest

theorem getOptPred_eq_ok_iff {bs rest : List Byte} {p : Option Pred} :
    getOptPred bs = .ok (p, rest) ↔ bs = putOptPred p ++ rest := by
  constructor
  · intro h
    obtain ⟨tag, tail, ht, h⟩ := andThen_eq_ok_iff.1 h
    rw [getU8_eq_ok_iff.1 ht]
    split at h
    · rename_i zero
      cases h
      rw [show tag = 0 from BitVec.eq_of_toNat_eq zero]; rfl
    · rename_i n succ
      obtain ⟨q, tail', hq, h⟩ := andThen_eq_ok_iff.1 h
      cases h
      exact cons_eq_of_getPredBody (by have := tag.isLt; apply BitVec.eq_of_toNat_eq; simp; omega) hq
  · rintro rfl
    exact getOptPred_put p rest

theorem getStamp_eq_ok_iff {bs rest : List Byte} {ts : Stamp} :
    getStamp bs = .ok (ts, rest) ↔ bs = putStamp ts ++ rest := by
  constructor
  · intro h
    obtain ⟨now, tail, hn, h⟩ := andThen_eq_ok_iff.1 h
    obtain ⟨ms, tail', hm, h⟩ := andThen_eq_ok_iff.1 h
    cases h
    rw [getU32_eq_ok_iff.1 hn, getU32_eq_ok_iff.1 hm, putStamp, List.append_assoc]
  · rintro rfl
    exact getStamp_put ts rest

/-! ### Records -/

/-- The bytes of an accepted record are those of the operation, by its row of R117. -/
theorem decodeOperands_eq_ok {op : Byte} {bs rest : List Byte} {i : Instr} (h : decodeOperands op bs = .ok (i, rest)) :
    i.op = op ∧ i.wellFormed = true ∧ bs = i.operandBytes ++ (putStamp i.stamp ++ rest) := by
  unfold decodeOperands at h
  split at h
  all_goals simp only [andThen_eq_ok_iff, getU1_eq_ok_iff, getU4_eq_ok_iff, getU8_eq_ok_iff, getU10_eq_ok_iff,
    getU12_eq_ok_iff, getU32_eq_ok_iff, getBytes_eq_ok_iff, getFrame_eq_ok_iff, getPred_eq_ok_iff, getOptPred_eq_ok_iff,
    getStamp_eq_ok_iff, reduceCtorEq, Except.ok.injEq, Prod.mk.injEq] at h
  case h_1 code =>
    obtain ⟨rxPin, _, rfl, txPin, _, rfl, capacity, _, rfl, ts, _, rfl, rfl, rfl⟩ := h
    exact ⟨BitVec.eq_of_toNat_eq code.symm, rfl, by simp [Instr.operandBytes, Instr.stamp]⟩
  case h_2 code | h_3 code | h_4 code | h_5 code | h_9 code | h_10 code | h_11 code | h_12 code | h_13 code | h_30 code =>
    obtain ⟨ts, _, rfl, rfl, rfl⟩ := h
    exact ⟨BitVec.eq_of_toNat_eq code.symm, rfl, rfl⟩
  case h_6 code =>
    obtain ⟨threshold, _, rfl, essential, _, rfl, ts, _, rfl, rfl, rfl⟩ := h
    exact ⟨BitVec.eq_of_toNat_eq code.symm, rfl, by simp [Instr.operandBytes, Instr.stamp]⟩
  case h_7 code | h_8 code =>
    obtain ⟨iden, _, rfl, flags, _, rfl, data, _, ⟨rfl, ok⟩, len, _, rfl, timeoutMs, _, rfl, ts, _, rfl, rfl, rfl⟩ := h
    exact ⟨BitVec.eq_of_toNat_eq code.symm, ok, by simp [Instr.operandBytes, Instr.stamp]⟩
  case h_14 code | h_15 code | h_17 code | h_18 code | h_19 code | h_28 code =>
    obtain ⟨f, _, ⟨rfl, ok⟩, ts, _, rfl, rfl, rfl⟩ := h
    exact ⟨BitVec.eq_of_toNat_eq code.symm, ok, rfl⟩
  case h_16 code =>
    obtain ⟨f, _, ⟨rfl, ok⟩, interest, _, rfl, ts, _, rfl, rfl, rfl⟩ := h
    exact ⟨BitVec.eq_of_toNat_eq code.symm, ok, by simp [Instr.operandBytes, Instr.stamp]⟩
  case h_20 code =>
    obtain ⟨f, _, ⟨rfl, ok⟩, k, _, rfl, ts, _, rfl, rfl, rfl⟩ := h
    exact ⟨BitVec.eq_of_toNat_eq code.symm, ok, by simp [Instr.operandBytes, Instr.stamp]⟩
  case h_21 code | h_22 code | h_23 code | h_24 code | h_29 code | h_31 code =>
    obtain ⟨v, _, rfl, ts, _, rfl, rfl, rfl⟩ := h
    exact ⟨BitVec.eq_of_toNat_eq code.symm, rfl, rfl⟩
  case h_25 code =>
    obtain ⟨cycles, _, rfl, jitterIn, _, rfl, ts, _, rfl, rfl, rfl⟩ := h
    exact ⟨BitVec.eq_of_toNat_eq code.symm, rfl, by simp [Instr.operandBytes, Instr.stamp]⟩
  case h_26 code | h_27 code =>
    obtain ⟨iden, _, rfl, flags, _, rfl, data, _, ⟨rfl, ok⟩, len, _, rfl, ts, _, rfl, rfl, rfl⟩ := h
    exact ⟨BitVec.eq_of_toNat_eq code.symm, ok, by simp [Instr.operandBytes, Instr.stamp]⟩

/-- Every operand of a well-formed operation reads back, in the order of its row of R117. -/
theorem decodeOperands_put (i : Instr) (rest : List Byte) (wf : i.wellFormed = true) :
    decodeOperands i.op (i.operandBytes ++ (putStamp i.stamp ++ rest)) = .ok (i, rest) := by
  cases i with
  | sendPacket | syncSendPacket | preparePacket | txEnqueue =>
    simp [Instr.op, Instr.operandBytes, Instr.stamp, decodeOperands, getBytes_put _ _ wf]
  | crc | checkCrc | repair | frameIden | frameFlags | frameDataLen | frameData | stuffFrame =>
    simp [Instr.op, Instr.operandBytes, Instr.stamp, decodeOperands, getFrame_put _ _ wf]
  | setup | enable | disable | available | receive | setDropPolicy | getCount | queueSize | getNQueued | getMaxQueued
  | dumpStats | manchEncode | manchDecode | eodTest | sofMatch | bitTimeDecode | evEdge | evAckTimeout | evTxTick =>
    simp [Instr.op, Instr.operandBytes, Instr.stamp, decodeOperands]

/-- Settles O1: a record is its code, by which the decoder picks the row, and the row's operands, which all read back. -/
theorem decodeEncodeRoundTrip : Obligations.DecodeEncodeRoundTrip := by
  intro i rest wf
  rw [encode, List.cons_append, List.append_assoc]
  exact decodeOperands_put i rest wf

/-- Settles O2: each operand reader accepts only what its encoder writes. -/
theorem decodedBytesAreTheRecord : Obligations.DecodedBytesAreTheRecord := by
  intro bs rest i h
  cases bs with
  | nil => cases h
  | cons op bs =>
    obtain ⟨rfl, wf, rfl⟩ := decodeOperands_eq_ok h
    exact ⟨wf, by rw [encode, List.cons_append, List.append_assoc]⟩

/-- Settles O5: by evaluation. -/
theorem writtenRecordsDecode : Obligations.WrittenRecordsDecode := by
  unfold Obligations.WrittenRecordsDecode
  exact ⟨rfl, rfl, rfl, rfl⟩

/-! ### Unassigned codes -/

section

open Laws.OpAssigned (unassigned)

/-- The ranges of R118. -/
theorem unassigned_iff (op : Byte) : unassigned op = true ↔
    op.toNat = 0x00 ∨ (0x0E ≤ op.toNat ∧ op.toNat ≤ 0x0F) ∨ (0x17 ≤ op.toNat ∧ op.toNat ≤ 0x1F) ∨
      (0x28 ≤ op.toNat ∧ op.toNat ≤ 0x7F) ∨ (0x83 ≤ op.toNat ∧ op.toNat ≤ 0xFF) := by
  have := op.isLt
  simp only [unassigned, Bool.or_eq_true, Bool.and_eq_true, decide_eq_true_eq]
  omega

/-- The reading does not end with an unassigned code: its bytes are operands. -/
def ReadsOperands {α : Type} (p : Parsed α) : Prop := ∀ c, p ≠ .error (.unassigned c)

section
variable {α β : Type}

@[simp] theorem readsOperands_ok (r : α × List Byte) : ReadsOperands (.ok r : Parsed α) := fun _ h => by cases h

@[simp] theorem readsOperands_truncated : ReadsOperands (.error .truncated : Parsed α) := fun _ h => by cases h

@[simp] theorem readsOperands_operandRange : ReadsOperands (.error .operandRange : Parsed α) := fun _ h => by cases h

@[simp] theorem readsOperands_andThen {p : Parsed α} {k : α → List Byte → Parsed β} (hp : ReadsOperands p)
    (hk : ∀ a bs, ReadsOperands (k a bs)) : ReadsOperands (andThen p k) := by
  rcases p with e | ⟨a, bs⟩
  · intro c h
    cases h
    exact hp c rfl
  · exact hk a bs

end

@[simp] theorem getU8_readsOperands (bs : List Byte) : ReadsOperands (getU8 bs) := by
  unfold getU8; split <;> simp

@[simp] theorem getU16_readsOperands (bs : List Byte) : ReadsOperands (getU16 bs) := by
  unfold getU16; split <;> simp

@[simp] theorem getU32_readsOperands (bs : List Byte) : ReadsOperands (getU32 bs) := by
  unfold getU32; split <;> simp

@[simp] theorem getU1_readsOperands (bs : List Byte) : ReadsOperands (getU1 bs) :=
  readsOperands_andThen (getU8_readsOperands bs) fun b bs => by
    split
    · simp
    · split <;> simp

@[simp] theorem getU4_readsOperands (bs : List Byte) : ReadsOperands (getU4 bs) :=
  readsOperands_andThen (getU8_readsOperands bs) fun b bs => by split <;> simp

@[simp] theorem getU10_readsOperands (bs : List Byte) : ReadsOperands (getU10 bs) :=
  readsOperands_andThen (getU16_readsOperands bs) fun b bs => by split <;> simp

@[simp] theorem getU12_readsOperands (bs : List Byte) : ReadsOperands (getU12 bs) :=
  readsOperands_andThen (getU16_readsOperands bs) fun b bs => by split <;> simp

@[simp] theorem getMany_readsOperands (n : Nat) (bs : List Byte) : ReadsOperands (getMany n bs) := by
  induction n generalizing bs with
  | zero => simp [getMany]
  | succ n ih =>
    cases bs with
    | nil => simp [getMany]
    | cons b bs => exact readsOperands_andThen (ih bs) fun _ _ => readsOperands_ok _

@[simp] theorem getBytes_readsOperands (bs : List Byte) : ReadsOperands (getBytes bs) :=
  readsOperands_andThen (getU8_readsOperands bs) fun n bs => by split <;> simp

@[simp] theorem getUncertain_readsOperands (bs : List Byte) : ReadsOperands (getUncertain bs) :=
  readsOperands_andThen (getU1_readsOperands bs) fun present bs => by
    split
    · exact readsOperands_andThen (getU16_readsOperands bs) fun i bs => by split <;> simp
    · simp

@[simp] theorem getFrame_readsOperands (bs : List Byte) : ReadsOperands (getFrame bs) :=
  readsOperands_andThen (getBytes_readsOperands bs) fun _ bs =>
    readsOperands_andThen (getUncertain_readsOperands bs) fun _ _ => readsOperands_ok _

@[simp] theorem getPredBody_readsOperands (n : Nat) (bs : List Byte) : ReadsOperands (getPredBody n bs) := by
  unfold getPredBody
  split <;> simp

@[simp] theorem getPred_readsOperands (bs : List Byte) : ReadsOperands (getPred bs) :=
  readsOperands_andThen (getU8_readsOperands bs) fun tag bs => getPredBody_readsOperands tag.toNat bs

@[simp] theorem getOptPred_readsOperands (bs : List Byte) : ReadsOperands (getOptPred bs) :=
  readsOperands_andThen (getU8_readsOperands bs) fun tag bs => by split <;> simp

@[simp] theorem getStamp_readsOperands (bs : List Byte) : ReadsOperands (getStamp bs) :=
  readsOperands_andThen (getU32_readsOperands bs) fun _ bs =>
    readsOperands_andThen (getU32_readsOperands bs) fun _ _ => readsOperands_ok _


/-- The decoder's rows are exactly the assigned codes (R118). -/
theorem decodeOperands_eq_unassigned_iff (op : Byte) (bs : List Byte) :
    decodeOperands op bs = .error (.unassigned op) ↔ unassigned op = true := by
  rw [unassigned_iff]
  unfold decodeOperands
  split
  case h_32 =>
    have := op.isLt
    refine iff_of_true rfl ?_
    simp only [imp_false] at *
    omega
  all_goals
    refine iff_of_false ?_ (by omega)
    refine (?_ : ReadsOperands _) op
    repeat refine readsOperands_andThen (by simp) fun _ _ => ?_
    exact readsOperands_ok _

end

end Sys2Proof
end

section
/-! SUPPORT. Records that are no operation (30_encoding.md R116, R118; 60_exceptions.md R361): what each operand reader
answers for a value outside its type, which operand each operation reads first, and that the step refuses the record. -/

namespace Sys2Proof.Machine

/-! ### The step -/

/-- Bytes that are no record are refused (60_exceptions.md R361). -/
theorem step_of_decode_error {s : State} {e : DecodeError} (h : decode s.input = .error e) (ne : e ≠ .noRecord) :
    step s = .refused (refusalOf e) := by
  unfold step performNext
  split
  · rename_i empty
    rw [empty] at h
    cases h
    exact absurd rfl ne
  · rename_i b bs cons
    rw [cons] at h
    rw [h]

/-- Settles O3: an operand reader never answers that a code is unassigned, and the decoder's rows have the assigned codes. -/
theorem unassignedCodesAreRefused : Obligations.UnassignedCodesAreRefused := by
  intro op bs
  refine ⟨(decodeOperands_eq_unassigned_iff op bs).trans (unassigned_iff op), fun s input h => ?_⟩
  exact step_of_decode_error (input ▸ h) (by simp)

/-! ### Operand readers on a value outside the type -/

section
variable {bs : List Byte}

theorem toNat_append_byte (lo hi : Byte) : (hi ++ lo).toNat = 256 * hi.toNat + lo.toNat := by
  rw [BitVec.toNat_append, ← Nat.shiftLeft_add_eq_or_of_lt lo.isLt, Nat.shiftLeft_eq]
  omega

theorem getU1_of_high {b : Byte} (high : 2 ≤ b.toNat) : getU1 (b :: bs) = .error .operandRange := by
  have ne_zero : b ≠ 0 := by rintro rfl; simp at high
  have ne_one : b ≠ 1 := by rintro rfl; simp at high
  rw [getU1, getU8_cons, andThen_ok, if_neg ne_zero, if_neg ne_one]

theorem getU4_of_high {b : Byte} (high : 16 ≤ b.toNat) : getU4 (b :: bs) = .error .operandRange := by
  simp [getU4, Nat.not_lt.2 high]

theorem getU4_of_low {b : Byte} (low : b.toNat < 16) : getU4 (b :: bs) = .ok (b.setWidth 4, bs) := by
  simp [getU4, low]

theorem getU10_of_high {lo hi : Byte} (high : 4 ≤ hi.toNat) : getU10 (lo :: hi :: bs) = .error .operandRange := by
  have large : ¬ (hi ++ lo).toNat < 1024 := by rw [toNat_append_byte]; omega
  exact if_neg large

theorem getU12_of_high {lo hi : Byte} (high : 16 ≤ hi.toNat) : getU12 (lo :: hi :: bs) = .error .operandRange := by
  have large : ¬ (hi ++ lo).toNat < 4096 := by rw [toNat_append_byte]; omega
  exact if_neg large

theorem getU12_of_low {lo hi : Byte} (low : hi.toNat < 16) :
    getU12 (lo :: hi :: bs) = .ok ((hi ++ lo).setWidth 12, bs) := by
  have small : (hi ++ lo).toNat < 4096 := by rw [toNat_append_byte]; omega
  exact if_pos small

theorem getBytes_of_long {n : Byte} (long : 33 < n.toNat) : getBytes (n :: bs) = .error .operandRange :=
  if_neg (Nat.not_le.2 long)

theorem getUncertain_of_no_flag {p : Byte} (high : 2 ≤ p.toNat) : getUncertain (p :: bs) = .error .operandRange := by
  rw [getUncertain, getU1_of_high high, andThen_error]

theorem getUncertain_of_high {lo hi : Byte} (high : 264 ≤ 256 * hi.toNat + lo.toNat) :
    getUncertain (1 :: lo :: hi :: bs) = .error .operandRange := by
  have large : ¬ (hi ++ lo).toNat < 264 := by rw [toNat_append_byte]; omega
  exact if_neg large

theorem getFrame_of_getBytes_error {e : DecodeError} (h : getBytes bs = .error e) : getFrame bs = .error e := by
  rw [getFrame, h, andThen_error]

theorem getFrame_of_getUncertain_error {data : List Byte} {e : DecodeError} (short : data.length ≤ 33)
    (h : getUncertain bs = .error e) : getFrame (BitVec.ofNat 8 data.length :: (data ++ bs)) = .error e := by
  have bytes : getBytes (BitVec.ofNat 8 data.length :: (data ++ bs)) = .ok (data, bs) :=
    getBytes_put data bs (decide_eq_true short)
  rw [getFrame, bytes, andThen_ok, h, andThen_error]

theorem getPredBody_of_no_form {n : Nat} (high : 4 ≤ n) : getPredBody n bs = .error .operandRange := by
  unfold getPredBody
  split
  iterate 4 omega
  rfl

theorem getPred_of_no_form {tag : Byte} (high : 4 ≤ tag.toNat) : getPred (tag :: bs) = .error .operandRange :=
  getPredBody_of_no_form high

theorem getPred_of_high_iden {lo hi : Byte} (high : 16 ≤ hi.toNat) :
    getPred (2 :: lo :: hi :: bs) = .error .operandRange := by
  show andThen (getU12 (lo :: hi :: bs)) _ = _
  rw [getU12_of_high high, andThen_error]

theorem getOptPred_of_no_form {tag : Byte} (high : 5 ≤ tag.toNat) : getOptPred (tag :: bs) = .error .operandRange := by
  rw [getOptPred, getU8_cons, andThen_ok]
  split
  · omega
  · rw [getPredBody_of_no_form (by omega), andThen_error]

theorem getOptPred_of_high_iden {lo hi : Byte} (high : 16 ≤ hi.toNat) :
    getOptPred (3 :: lo :: hi :: bs) = .error .operandRange := by
  show andThen (andThen (getU12 (lo :: hi :: bs)) _) _ = _
  rw [getU12_of_high high, andThen_error, andThen_error]

end

/-! ### What an operation reads first -/

/-- The records that begin with a frame go on as their row says once the frame is read (R117). -/
theorem decode_frame_first {op : Byte} (frame_op : (0x10 ≤ op.toNat ∧ op.toNat ≤ 0x16) ∨ op = 0x27) :
    ∃ k : Frame → List Byte → Parsed Instr, ∀ bs, decode (op :: bs) = andThen (getFrame bs) k := by
  have codes : op = 0x10 ∨ op = 0x11 ∨ op = 0x12 ∨ op = 0x13 ∨ op = 0x14 ∨ op = 0x15 ∨ op = 0x16 ∨ op = 0x27 := by
    bv_omega
  rcases codes with rfl | rfl | rfl | rfl | rfl | rfl | rfl | rfl <;> exact ⟨_, fun _ => rfl⟩

/-- The records of the four packet operations begin with an identifier, flags and data (R117). -/
theorem decode_packet_first {op : Byte} (packet_op : op = 0x07 ∨ op = 0x08 ∨ op = 0x25 ∨ op = 0x26) :
    ∃ k : BitVec 12 → BitVec 4 → List Byte → List Byte → Parsed Instr, ∀ bs, decode (op :: bs) =
      andThen (getU12 bs) fun iden bs => andThen (getU4 bs) fun flags bs => andThen (getBytes bs) (k iden flags) := by
  rcases packet_op with rfl | rfl | rfl | rfl <;> exact ⟨_, fun _ => rfl⟩

theorem decode_frame_error {op : Byte} {bs : List Byte} {e : DecodeError}
    (frame_op : (0x10 ≤ op.toNat ∧ op.toNat ≤ 0x16) ∨ op = 0x27) (h : getFrame bs = .error e) :
    decode (op :: bs) = .error e := by
  obtain ⟨k, decodes⟩ := decode_frame_first frame_op
  rw [decodes, h, andThen_error]

/-- Settles O4: each clause is one reader's refusal, after the operands before it have been read. -/
theorem outOfRangeOperandsAreRefused : Obligations.OutOfRangeOperandsAreRefused := by
  refine ⟨?u1, ?u10, ?u12, ?u4, ?bytes, ?frameLength, ?frameFlag, ?frameIndex, ?pred, ?predIden, ?optPred, ?optPredIden,
    ?step⟩
  case u1 =>
    rintro op b bs (rfl | rfl) high
    all_goals
      show andThen (getU1 (b :: bs)) _ = _
      rw [getU1_of_high high, andThen_error]
  case u10 =>
    rintro op a b bs (rfl | rfl | rfl) high
    all_goals
      show andThen (getU10 (a :: b :: bs)) _ = _
      rw [getU10_of_high high, andThen_error]
  case u12 =>
    intro op a b bs packet_op high
    obtain ⟨k, decodes⟩ := decode_packet_first packet_op
    rw [decodes, getU12_of_high high, andThen_error]
  case u4 =>
    intro op a b c bs packet_op low high
    obtain ⟨k, decodes⟩ := decode_packet_first packet_op
    rw [decodes, getU12_of_low low, andThen_ok, getU4_of_high high, andThen_error]
  case bytes =>
    intro op a b c n bs packet_op iden_low flags_low long
    obtain ⟨k, decodes⟩ := decode_packet_first packet_op
    rw [decodes, getU12_of_low iden_low, andThen_ok, getU4_of_low flags_low, andThen_ok, getBytes_of_long long,
      andThen_error]
  case frameLength =>
    intro op n bs frame_op long
    exact decode_frame_error frame_op (getFrame_of_getBytes_error (getBytes_of_long long))
  case frameFlag =>
    intro op p data bs frame_op short high
    exact decode_frame_error frame_op (getFrame_of_getUncertain_error short (getUncertain_of_no_flag high))
  case frameIndex =>
    intro op lo hi data bs frame_op short high
    exact decode_frame_error frame_op (getFrame_of_getUncertain_error short (getUncertain_of_high high))
  case pred =>
    intro a b c d tag bs high
    show andThen (getPred (tag :: bs)) _ = _
    rw [getPred_of_no_form high, andThen_error]
  case predIden =>
    intro a b c d lo hi bs high
    show andThen (getPred (2 :: lo :: hi :: bs)) _ = _
    rw [getPred_of_high_iden high, andThen_error]
  case optPred =>
    intro f tag bs ok high
    show andThen (getFrame (putFrame f ++ tag :: bs)) _ = _
    rw [getFrame_put _ _ ok, andThen_ok, getOptPred_of_no_form high, andThen_error]
  case optPredIden =>
    intro f lo hi bs ok high
    show andThen (getFrame (putFrame f ++ 3 :: lo :: hi :: bs)) _ = _
    rw [getFrame_put _ _ ok, andThen_ok, getOptPred_of_high_iden high, andThen_error]
  case step => exact fun s h => step_of_decode_error h (by simp)

end Sys2Proof.Machine
end

section
/-! SUPPORT. Stuffing (30_encoding.md R100 to R105, R110, R124): the bits of a group, the bits of a stream of groups by
their position, and that each check bit is the complement of the bit before it. -/

namespace Sys2Proof.Machine

/-! ### Bit indices -/

/-- Settles O18: both maps work within one byte, whose bits 4 to 7 stand one position later. -/
theorem bitIndexMapsAreInverse : Obligations.BitIndexMapsAreInverse := by
  refine ⟨fun i => rfl, fun i => ?_, fun p i h => ?_, fun p => ?_⟩
  · unfold bitOf rawPos
    split
    · rw [if_neg (by omega), if_pos (by omega)]
      refine ⟨by omega, by omega, congrArg some (by omega)⟩
    · rw [if_pos (by omega)]
      refine ⟨by omega, by omega, congrArg some (by omega)⟩
  · unfold bitOf at h
    unfold rawPos
    split at h
    · cases h
      rw [if_neg (by omega)]
      omega
    · split at h
      · cases h
        rw [if_pos (by omega)]
        omega
      · cases h
  · unfold bitOf
    split
    · simp; omega
    · split
      · simp; omega
      · simp; omega

/-! ### Groups -/

/-- The bits of a stuffed byte, by their index in the group (R101). -/
theorem encGroup_getLsbD (b : Byte) {j : Nat} (hj : j < 10) : (encGroup b).getLsbD j =
    if j = 0 then !b.getLsbD 0 else if j < 5 then b.getLsbD (j - 1) else if j = 5 then !b.getLsbD 4
    else b.getLsbD (j - 2) := by
  show (b.extractLsb' 4 4 ++ ~~~(b.extractLsb' 4 1) ++ b.extractLsb' 0 4 ++ ~~~(b.extractLsb' 0 1)).getLsbD j = _
  simp only [BitVec.getLsbD_append, BitVec.getLsbD_not, BitVec.getLsbD_extractLsb']
  obtain rfl | low | rfl | high : j = 0 ∨ (0 < j ∧ j < 5) ∨ j = 5 ∨ 5 < j := by omega
  · rfl
  · rw [if_neg (by omega : ¬j < 1), if_pos (by omega : j - 1 < 4), if_neg (by omega), if_pos low.2,
      decide_eq_true (by omega : j - 1 < 4), Bool.true_and, Nat.zero_add]
  · rfl
  · rw [if_neg (by omega : ¬j < 1), if_neg (by omega : ¬j - 1 < 4), if_neg (by omega : ¬j - 1 - 4 < 1),
      if_neg (by omega), if_neg (by omega), if_neg (by omega), decide_eq_true (by omega), Bool.true_and,
      show 4 + (j - 1 - 4 - 1) = j - 2 by omega]

/-- The bits of an unstuffed group (R102). -/
theorem decGroup_getLsbD (g : Group) {j : Nat} (hj : j < 8) :
    (decGroup g).getLsbD j = g.getLsbD (if j < 4 then j + 1 else j + 2) := by
  show (g.extractLsb' 6 4 ++ g.extractLsb' 1 4).getLsbD j = _
  simp only [BitVec.getLsbD_append, BitVec.getLsbD_extractLsb']
  split
  · rw [decide_eq_true ‹_›, Bool.true_and, Nat.add_comm]
  · rw [decide_eq_true (by omega), Bool.true_and, show 6 + (j - 4) = j + 2 by omega]

/-- The bits of an EOD group: those of the stuffed byte, but for the last two, which are dominant (R104). -/
theorem eodGroup_getLsbD (b : Byte) {j : Nat} (hj : j < 10) :
    (eodGroup b).getLsbD j = ((encGroup b).getLsbD j && decide (2 ≤ j)) := by
  have mask : ∀ j < 10, (0x3FC : Group).getLsbD j = decide (2 ≤ j) := by decide
  rw [eodGroup, BitVec.getLsbD_and, mask j hj]

/-- With bit 0 of the byte clear, the EOD marker changes the last bit of its group only (R104). -/
theorem eodGroup_getLsbD_of_clear {b : Byte} (clear : b.getLsbD 0 = false) {j : Nat} (pos : 0 < j) (hj : j < 10) :
    (eodGroup b).getLsbD j = (encGroup b).getLsbD j := by
  rw [eodGroup_getLsbD b hj]
  by_cases one : j = 1
  · subst one
    rw [encGroup_getLsbD b hj, if_neg (by decide), if_pos (by decide), clear]
    rfl
  · rw [decide_eq_true (by omega : 2 ≤ j), Bool.and_true]

/-- A stuffed byte is a well-formed group (R103). -/
theorem encGroup_checks (b : Byte) :
    ((encGroup b).getLsbD 5 = !(encGroup b).getLsbD 6) ∧ ((encGroup b).getLsbD 0 = !(encGroup b).getLsbD 1) := by
  rw [encGroup_getLsbD b (by decide : 5 < 10), encGroup_getLsbD b (by decide : 6 < 10),
    encGroup_getLsbD b (by decide : 0 < 10), encGroup_getLsbD b (by decide : 1 < 10)]
  exact ⟨rfl, rfl⟩

theorem decGroup_encGroup (b : Byte) : decGroup (encGroup b) = b := by
  refine BitVec.eq_of_getLsbD_eq fun j hj => ?_
  rw [decGroup_getLsbD _ hj]
  split
  · rw [encGroup_getLsbD _ (by omega), if_neg (by omega), if_pos (by omega)]; rfl
  · rw [encGroup_getLsbD _ (by omega), if_neg (by omega), if_neg (by omega), if_neg (by omega)]; rfl

theorem encGroup_decGroup {g : Group} (check5 : g.getLsbD 5 = !g.getLsbD 6) (check0 : g.getLsbD 0 = !g.getLsbD 1) :
    encGroup (decGroup g) = g := by
  refine BitVec.eq_of_getLsbD_eq fun j hj => ?_
  rw [encGroup_getLsbD _ hj]
  split
  · rename_i zero
    rw [zero, check0, decGroup_getLsbD g (by decide)]; rfl
  · split
    · rw [decGroup_getLsbD g (by omega), if_pos (by omega), Nat.sub_add_cancel (by omega)]
    · split
      · rename_i five
        rw [five, check5, decGroup_getLsbD g (by decide)]; rfl
      · rw [decGroup_getLsbD g (by omega), if_neg (by omega), Nat.sub_add_cancel (by omega)]

/-- Settles O15: the check bits are complements of the bits before them, and the other eight bits are the byte's. -/
theorem stuffingIsExactlyTheWellFormedGroups : Obligations.StuffingIsExactlyTheWellFormedGroups := by
  refine ⟨decGroup_encGroup, fun g => ⟨?_, ?_⟩, fun b marker => ?_, fun b => ⟨?_, ?_⟩⟩
  · rintro ⟨b, rfl⟩
    exact encGroup_checks b
  · rintro ⟨check5, check0⟩
    exact ⟨decGroup g, (encGroup_decGroup check5 check0).symm⟩
  · have dominant : ∀ j < 2, (encGroup b).getLsbD j = false := fun j hj => by
      simpa [BitVec.getLsbD_extractLsb', hj] using congrArg (BitVec.getLsbD · j) marker
    have check := (encGroup_checks b).2
    rw [dominant 0 (by decide), dominant 1 (by decide)] at check
    cases check
  · refine BitVec.eq_of_getLsbD_eq fun j hj => ?_
    rw [BitVec.getLsbD_extractLsb', eodGroup_getLsbD b (by omega), decide_eq_false (by omega : ¬2 ≤ 0 + j)]
    simp
  · refine BitVec.eq_of_getLsbD_eq fun j hj => ?_
    rw [BitVec.getLsbD_extractLsb', BitVec.getLsbD_extractLsb', eodGroup_getLsbD b (by omega),
      decide_eq_true (by omega : 2 ≤ 2 + j), Bool.and_true]

/-! ### Streams of groups -/

theorem groupBitsOf_getElem? (g : Group) {j : Nat} (hj : j < 10) : (groupBitsOf g)[j]? = some (g.getLsbD (9 - j)) := by
  interval_cases j <;> rfl

/-- A bit of a stream of groups: bit 9 of each group comes first (R100). -/
theorem groupStream_getElem? (gs : List Group) (q : Nat) :
    (gs.flatMap groupBitsOf)[q]? = gs[q / 10]?.map fun g => g.getLsbD (9 - q % 10) := by
  induction gs generalizing q with
  | nil => simp
  | cons g gs ih =>
    have length : (groupBitsOf g).length = 10 := rfl
    rw [List.flatMap_cons]
    by_cases first : q < 10
    · rw [List.getElem?_append_left (length ▸ first), groupBitsOf_getElem? g first, Nat.div_eq_of_lt first,
        Nat.mod_eq_of_lt first]
      rfl
    · rw [List.getElem?_append_right (by omega), length, ih, show q / 10 = (q - 10) / 10 + 1 by omega,
        List.getElem?_cons_succ, show q % 10 = (q - 10) % 10 by omega]

theorem groupStream_length (gs : List Group) : (gs.flatMap groupBitsOf).length = 10 * gs.length := by
  induction gs with
  | nil => rfl
  | cons g gs ih =>
    have length : (groupBitsOf g).length = 10 := rfl
    rw [List.flatMap_cons, List.length_append, ih, length, List.length_cons]
    omega

/-- The stream of stuffed bytes, without an EOD marker. -/
def encStream (bs : List Byte) : List Bit := (bs.map encGroup).flatMap groupBitsOf

/-- The bit after a position 3 or 8 (mod 10) is a check bit, the complement of the bit there (R101). -/
theorem encStream_check {bs : List Byte} {q : Nat} {v : Bit} (hq : q % 5 = 3) (h : (encStream bs)[q]? = some v) :
    (encStream bs)[q + 1]? = some (!v) := by
  rw [encStream, groupStream_getElem?, List.getElem?_map] at h ⊢
  rw [show (q + 1) / 10 = q / 10 by omega]
  cases at_byte : bs[q / 10]? with
  | none => rw [at_byte] at h; cases h
  | some b =>
    rw [at_byte] at h
    cases h
    obtain three | eight : q % 10 = 3 ∨ q % 10 = 8 := by omega
    · rw [show (q + 1) % 10 = 4 by omega, three]
      exact congrArg some (encGroup_checks b).1
    · rw [show (q + 1) % 10 = 9 by omega, eight]
      exact congrArg some (encGroup_checks b).2

/-- Five equal bits begin at a check bit, and the bit after them is the complement (R105). -/
theorem encStream_run {bs : List Byte} {p : Nat} {v : Bit} (run : ∀ j < 5, (encStream bs)[p + j]? = some v) :
    p % 5 = 4 ∧ (encStream bs)[p + 5]? = some (!v) := by
  have starts : p % 5 = 4 := by
    by_contra other
    have check := encStream_check (q := p + (3 - p % 5)) (by omega) (run (3 - p % 5) (by omega))
    have next := run (3 - p % 5 + 1) (by omega)
    rw [← Nat.add_assoc, check] at next
    cases v <;> cases next
  exact ⟨starts, encStream_check (by omega) (run 4 (by decide))⟩

theorem stuffGroups_concat (bs : List Byte) (b : Byte) : stuffGroups (bs ++ [b]) = bs.map encGroup ++ [eodGroup b] := by
  induction bs with
  | nil => rfl
  | cons a bs ih =>
    cases bs with
    | nil => rfl
    | cons c bs => exact congrArg (encGroup a :: ·) ih

theorem stuffBits_length (bs : List Byte) (b : Byte) : (stuffBits (bs ++ [b])).length = 10 * bs.length + 10 := by
  rw [stuffBits, groupStream_length, stuffGroups_concat]
  simp
  omega

/-- The last bit of a frame's stuffed bits is dominant (R104). -/
theorem stuffBits_last (bs : List Byte) (b : Byte) : (stuffBits (bs ++ [b]))[10 * bs.length + 9]? = some false := by
  rw [stuffBits, stuffGroups_concat, groupStream_getElem?, show (10 * bs.length + 9) / 10 = bs.length by omega,
    show (10 * bs.length + 9) % 10 = 9 by omega, List.getElem?_append_right (by simp), List.length_map,
    Nat.sub_self bs.length]
  exact congrArg some ((eodGroup_getLsbD b (by decide : 0 < 10)).trans (Bool.and_false _))

/-- With bit 0 of the last byte clear, the EOD marker changes the last bit of the stream only. -/
theorem stuffBits_eq_encStream {bs : List Byte} {b : Byte} (clear : b.getLsbD 0 = false) {q : Nat}
    (hq : q < 10 * bs.length + 9) : (stuffBits (bs ++ [b]))[q]? = (encStream (bs ++ [b]))[q]? := by
  rw [stuffBits, encStream, stuffGroups_concat, List.map_append, groupStream_getElem?, groupStream_getElem?]
  by_cases before : q / 10 < bs.length
  · rw [List.getElem?_append_left (by simpa using before), List.getElem?_append_left (by simpa using before)]
  · rw [show q / 10 = (bs.map encGroup).length by simp; omega, List.getElem?_append_right le_rfl,
      List.getElem?_append_right le_rfl, Nat.sub_self]
    exact congrArg some (eodGroup_getLsbD_of_clear clear (by omega) (by omega))

/-- Settles O17: five equal bits begin at a check bit and the next check bit ends them, unless the EOD marker replaces that
check bit, which is then the last bit of the stream. -/
theorem stuffedRunLengths : Obligations.StuffedRunLengths := by
  constructor
  · intro bs p v run
    obtain ⟨starts, sixth⟩ := encStream_run run
    refine ⟨by omega, fun same => ?_⟩
    cases v <;> cases sixth.symm.trans same
  · intro bs b p v clear run
    have bound : p + 5 < 10 * bs.length + 10 := by
      rw [← stuffBits_length bs b]
      exact (List.getElem?_eq_some_iff.1 (run 5 (by decide))).1
    have five : ∀ j < 5, (encStream (bs ++ [b]))[p + j]? = some v := fun j hj => by
      rw [← stuffBits_eq_encStream clear (by omega)]
      exact run j (by omega)
    have last : p + 5 = 10 * bs.length + 9 := by
      by_contra inside
      have sixth := run 5 (by decide)
      rw [stuffBits_eq_encStream clear (by omega), (encStream_run five).2] at sixth
      cases v <;> cases sixth
    have sixth := run 5 (by decide)
    rw [last, stuffBits_last] at sixth
    cases sixth
    exact ⟨rfl, by rw [stuffBits_length]; omega⟩

end Sys2Proof.Machine
end

section
/-! SUPPORT. The step on a record that decodes (30_encoding.md R115; 60_exceptions.md R364, R365): when the host's pass or a
due ACK timeout comes before it. -/

namespace Sys2Proof.Machine

/-- An ACK timeout is due only before an edge or a tick (60_exceptions.md R364; log entry 8). -/
theorem timeoutFirst_iff (i : Instr) (s : State) : timeoutFirst i s = true ↔
    (i.op = 0x80 ∨ i.op = 0x82) ∧ s.ackArmed = true ∧ (i.stamp.now - s.ackDeadline).toNat < 2 ^ 31 := by
  cases i with
  | evEdge | evTxTick => simp [timeoutFirst, ackDue_iff, Instr.op, Instr.stamp]
  | _ => simp [timeoutFirst, Instr.op]

/-- The host moves before a command, and before an event that its pass comes before (45_tx.md R304; log entry 9). -/
theorem hostFirst_iff (i : Instr) (s : State) : hostFirst i s = true ↔ ∃ h, s.send = some h ∧
    (i.op.getLsbD 7 = false ∨ passFirst h i.stamp.ms s.input.length (timeoutFirst i s) = true) := by
  unfold hostFirst
  cases s.send with
  | none => simp
  | some h => simp [Instr.isEvent]

theorem hostPoll_of_send {s : State} {h : Send} (sending : s.send = some h) : hostPoll s = sendPass h h.nextPollMs s := by
  rw [hostPoll, sending]

/-- Where neither the host nor the ACK timer moves before the record, the step performs it. -/
theorem step_of_no_move {s : State} {i : Instr} {rest : List Byte} (decodes : decode s.input = .ok (i, rest))
    (no_pass : hostFirst i s = false) (no_timeout : timeoutFirst i s = false) : step s = exec i { s with input := rest } := by
  rw [step_of_decode decodes, if_neg (Bool.eq_false_iff.1 no_pass), if_neg (Bool.eq_false_iff.1 no_timeout)]

/-- Settles O6: the step's three cases, and that after the timeout the timer is off while the record and the send stand. -/
theorem stepRunsTheDecodedOperation : Obligations.StepRunsTheDecodedOperation := by
  intro s i rest decodes
  refine ⟨fun no_pass no_timeout => step_of_no_move decodes no_pass no_timeout, fun no_pass timeout => ?_,
    fun pass => ?_, ?_, timeoutFirst_iff i s⟩
  · have fires : step s = ackTimeoutHandler ⟨s.ackDeadline, i.stamp.ms⟩ s := by
      rw [step_of_decode decodes, if_neg (Bool.eq_false_iff.1 no_pass), if_pos timeout, dueTimeout]
    refine ⟨fires, fun u next => ?_⟩
    obtain ⟨disarmed, input_eq, send_eq⟩ := ackTimeoutHandler_frame (fires ▸ next)
    have no_timeout : timeoutFirst i u = false := timeoutFirst_of_disarmed disarmed
    exact ⟨input_eq, send_eq, no_timeout, fun no_pass => step_of_no_move (input_eq ▸ decodes) no_pass no_timeout⟩
  · obtain ⟨h, sending, -⟩ := (hostFirst_iff i s).1 pass
    exact ⟨h, sending, by rw [step_of_decode decodes, if_pos pass, hostPoll_of_send sending]⟩
  · simpa only [passFirst_iff] using hostFirst_iff i s

end Sys2Proof.Machine
end

section
/-! SUPPORT. The assembler (30_encoding.md R120): what it writes for an operand are the bytes of a value of the operand's
type, and the decoder's row for each code reads operands of the types of the assembler's row. -/

namespace Sys2Proof.Machine

/-! ### The operand types (30_encoding.md R116) -/

namespace OperandType

/-- The values of a type, as the operands of `Instr` hold them. -/
def Value : OperandType → Type
  | .u1 => Bit
  | .u4 => BitVec 4
  | .u8 => Byte
  | .u10 => Group
  | .u12 => BitVec 12
  | .u32 => Word
  | .i32 => SWord
  | .bytes => List Byte
  | .frame => Frame
  | .pred => Pred
  | .optpred => Option Pred

/-- The decoder's reader of a type. -/
def get : (ty : OperandType) → List Byte → Parsed ty.Value
  | .u1 => getU1
  | .u4 => getU4
  | .u8 => getU8
  | .u10 => getU10
  | .u12 => getU12
  | .u32 => getU32
  | .i32 => getU32
  | .bytes => getBytes
  | .frame => getFrame
  | .pred => getPred
  | .optpred => getOptPred

/-- The encoder's bytes of a value. -/
def put : (ty : OperandType) → ty.Value → List Byte
  | .u1 => putU1
  | .u4 => putU4
  | .u8 => putU8
  | .u10 => putU10
  | .u12 => putU12
  | .u32 => putU32
  | .i32 => putU32
  | .bytes => putBytes
  | .frame => putFrame
  | .pred => putPred
  | .optpred => putOptPred

/-- A value is in range: what WellFormed.lean asks of an operand of the type. -/
def valueOk : (ty : OperandType) → ty.Value → Bool
  | .bytes => bytesOk
  | .frame => frameOk
  | _ => fun _ => true

theorem get_put (ty : OperandType) (v : ty.Value) (bs : List Byte) (ok : ty.valueOk v = true) :
    ty.get (ty.put v ++ bs) = .ok (v, bs) := by
  cases ty with
  | u1 => exact getU1_put v bs
  | u4 => exact getU4_put v bs
  | u8 => exact getU8_put v bs
  | u10 => exact getU10_put v bs
  | u12 => exact getU12_put v bs
  | u32 | i32 => exact getU32_put v bs
  | bytes => exact getBytes_put v bs ok
  | frame => exact getFrame_put v bs ok
  | pred => exact getPred_put v bs
  | optpred => exact getOptPred_put v bs

/-- The bytes are those of a value of the type. -/
def Spells (ty : OperandType) (bs : List Byte) : Prop := ∃ v, ty.valueOk v = true ∧ bs = ty.put v

end OperandType

/-! ### What the assembler writes for an operand -/

theorem numberBelow_lt {bound n : Nat} {cs : List Char} (h : numberBelow bound cs = some n) : n < bound := by
  obtain ⟨m, -, h⟩ := Option.bind_eq_some_iff.1 h
  split at h
  · cases h; assumption
  · cases h

theorem natOperand_lt {bound n : Nat} {ts : List Token} (h : natOperand bound ts = some n) : n < bound := by
  unfold natOperand at h
  split at h
  · exact numberBelow_lt h
  · cases h

theorem bytesOperand_ok {ts : List Token} {bs : List Byte} (h : bytesOperand ts = some bs) : bytesOk bs = true := by
  unfold bytesOperand at h
  split at h
  · cases h; rfl
  · obtain ⟨xs, -, h⟩ := Option.bind_eq_some_iff.1 h
    split at h
    · cases h; assumption
    · cases h
  · cases h

theorem uncertainPiece_ok {ps : List Piece} {u : Option Nat × List Piece} (h : uncertainPiece ps = some u) :
    uncertainOk u.1 = true := by
  unfold uncertainPiece at h
  split at h
  · cases h; rfl
  · obtain ⟨i, hi, rfl⟩ := Option.map_eq_some_iff.1 h
    exact decide_eq_true (natOperand_lt hi)

/-- A number that fits into `m` bits is the same in wider words. -/
theorem ofNat_eq_setWidth {m n k : Nat} (h : k < 2 ^ m) : BitVec.ofNat n k = (BitVec.ofNat m k).setWidth n := by
  apply BitVec.eq_of_toNat_eq
  rw [BitVec.toNat_setWidth, BitVec.toNat_ofNat, BitVec.toNat_ofNat, Nat.mod_eq_of_lt h]

theorem operandBytesOf_spells {ty : OperandType} {ts : List Token} {ps : List Piece} {b : List Byte × List Piece}
    (h : operandBytesOf ty ts ps = some b) : ty.Spells b.1 := by
  cases ty with
  | u1 =>
    obtain ⟨n, hn, rfl⟩ := Option.map_eq_some_iff.1 h
    have small := natOperand_lt hn
    obtain rfl | rfl : n = 0 ∨ n = 1 := by omega
    · exact ⟨false, rfl, rfl⟩
    · exact ⟨true, rfl, rfl⟩
  | u4 =>
    obtain ⟨n, hn, rfl⟩ := Option.map_eq_some_iff.1 h
    exact ⟨BitVec.ofNat 4 n, rfl, congrArg putU8 (ofNat_eq_setWidth (natOperand_lt hn))⟩
  | u10 =>
    obtain ⟨n, hn, rfl⟩ := Option.map_eq_some_iff.1 h
    exact ⟨BitVec.ofNat 10 n, rfl, congrArg putU16 (ofNat_eq_setWidth (natOperand_lt hn))⟩
  | u12 =>
    obtain ⟨n, hn, rfl⟩ := Option.map_eq_some_iff.1 h
    exact ⟨BitVec.ofNat 12 n, rfl, congrArg putU16 (ofNat_eq_setWidth (natOperand_lt hn))⟩
  | bytes =>
    obtain ⟨bs, hbs, rfl⟩ := Option.map_eq_some_iff.1 h
    exact ⟨bs, bytesOperand_ok hbs, rfl⟩
  | frame =>
    obtain ⟨bs, hbs, h⟩ := Option.bind_eq_some_iff.1 h
    obtain ⟨u, hu, rfl⟩ := Option.map_eq_some_iff.1 h
    exact ⟨⟨bs, u.1⟩, Bool.and_eq_true_iff.2 ⟨bytesOperand_ok hbs, uncertainPiece_ok hu⟩, rfl⟩
  | u8 | u32 | i32 | pred | optpred =>
    obtain ⟨v, -, rfl⟩ := Option.map_eq_some_iff.1 h
    exact ⟨_, rfl, rfl⟩

/-- The bytes are those of values of the operands' types, one after another. -/
def SpellsAll : List (String × OperandType) → List Byte → Prop
  | [], bs => bs = []
  | (_, ty) :: operands, bs => ∃ a b, ty.Spells a ∧ SpellsAll operands b ∧ bs = a ++ b

theorem allOperandBytes_spells {operands : List (String × OperandType)} {ps : List Piece} {bs : List Byte}
    (h : allOperandBytes operands ps = some bs) : SpellsAll operands bs := by
  induction operands generalizing ps bs with
  | nil =>
    unfold allOperandBytes at h
    split at h
    · cases h; rfl
    · cases h
  | cons operand operands ih =>
    obtain ⟨a, -, h⟩ := Option.bind_eq_some_iff.1 h
    obtain ⟨b, hb, h⟩ := Option.bind_eq_some_iff.1 h
    obtain ⟨tail, ht, rfl⟩ := Option.map_eq_some_iff.1 h
    exact ⟨b.1, tail, operandBytesOf_spells hb, ih ht, rfl⟩

/-! ### Records -/

/-- The parser reads operands of these types, then the time stamps, and answers an operation with these stamps. -/
def Reads (operands : List (String × OperandType)) (parse : List Byte → Parsed Instr) : Prop :=
  ∀ (bs rest : List Byte) (ts : Stamp), SpellsAll operands bs →
    ∃ i, parse (bs ++ (putStamp ts ++ rest)) = .ok (i, rest) ∧ i.stamp = ts

theorem reads_nil {make : Stamp → Instr} (stamp_eq : ∀ ts, (make ts).stamp = ts) :
    Reads [] fun bs => andThen (getStamp bs) fun ts bs => .ok (make ts, bs) := by
  rintro bs rest ts rfl
  refine ⟨make ts, ?_, stamp_eq ts⟩
  simp only [List.nil_append, getStamp_put, andThen_ok]

theorem reads_cons {name : String} {ty : OperandType} {operands : List (String × OperandType)}
    {k : ty.Value → List Byte → Parsed Instr} (reads : ∀ v, Reads operands (k v)) :
    Reads ((name, ty) :: operands) fun bs => andThen (ty.get bs) k := by
  rintro bs rest ts ⟨a, b, ⟨v, ok, rfl⟩, spells, rfl⟩
  obtain ⟨i, parses, stamp_eq⟩ := reads v b rest ts spells
  exact ⟨i, by simpa only [List.append_assoc, ty.get_put v _ ok, andThen_ok] using parses, stamp_eq⟩

/-- For every row of the operation map, the decoder's row for its code reads its operands (R117). -/
theorem decodeOperands_reads : ∀ r ∈ operationRows, Reads r.operands (decodeOperands r.op) := by
  simp only [operationRows, controlRows, codecRows, eventRows, packetOperands, List.cons_append, List.nil_append,
    List.forall_mem_cons, List.not_mem_nil, false_imp_iff, implies_true, and_true]
  and_intros
  all_goals
    repeat refine reads_cons fun _ => ?_
    exact reads_nil fun _ => rfl

theorem feedLine_ne_record (ts : Stamp) (tokens : List Token) (bs : List Byte) :
    feedLine ts tokens ≠ some (.record bs) := by
  intro h
  unfold feedLine at h
  split at h
  · obtain ⟨t0, -, h⟩ := Option.bind_eq_some_iff.1 h
    obtain ⟨bits, -, h⟩ := Option.map_eq_some_iff.1 h
    cases h
  · cases h

theorem ticksLine_ne_record (ts : Stamp) (tokens : List Token) (bs : List Byte) :
    ticksLine ts tokens ≠ some (.record bs) := by
  intro h
  unfold ticksLine at h
  split at h
  · obtain ⟨t0, -, h⟩ := Option.bind_eq_some_iff.1 h
    obtain ⟨n, -, h⟩ := Option.bind_eq_some_iff.1 h
    obtain ⟨bits, -, h⟩ := Option.map_eq_some_iff.1 h
    cases h
  · cases h

/-- A record the assembler writes: the code of a row, the bytes of its operands, and the line's instant (R120). -/
theorem bodyLine_record {ts : Stamp} {tokens : List Token} {bs : List Byte}
    (h : bodyLine ts tokens = some (.record bs)) :
    ∃ r ∈ operationRows, ∃ operands, SpellsAll r.operands operands ∧ bs = r.op :: (operands ++ putStamp ts) := by
  unfold bodyLine at h
  split at h
  · cases h
  · split at h
    · exact absurd h (feedLine_ne_record _ _ _)
    · split at h
      · exact absurd h (ticksLine_ne_record _ _ _)
      · obtain ⟨r, found, h⟩ := Option.bind_eq_some_iff.1 h
        obtain ⟨operands, assembled, h⟩ := Option.map_eq_some_iff.1 h
        cases h
        exact ⟨r, List.mem_of_find?_eq_some found, operands, allOperandBytes_spells assembled, rfl⟩
  · cases h

/-- Settles O60: the line's operands spell the operands of its row, and the decoder reads them back. -/
theorem assembledRecordsDecode : Obligations.AssembledRecordsDecode := by
  intro prev ts text bs h
  obtain ⟨⟨now, tokens⟩, -, h⟩ := Option.bind_eq_some_iff.1 h
  obtain ⟨line, body, h⟩ := Option.map_eq_some_iff.1 h
  cases h
  obtain ⟨r, row, operands, spells, rfl⟩ := bodyLine_record body
  obtain ⟨i, reads, stamp_eq⟩ := decodeOperands_reads r row operands [] now spells
  have decodes : decode (r.op :: (operands ++ putStamp now)) = .ok (i, []) := by rwa [List.append_nil] at reads
  exact ⟨i, decodes, (decodedBytesAreTheRecord _ _ _ decodes).1, stamp_eq⟩

end Sys2Proof.Machine
end

section
/-! SUPPORT. The bit-time decoder (40_bit_time_decoder.md R141 to R148): which band a table gives an interval, and what the
reference table, scaled or not, makes of the count and of the carry. -/

namespace Sys2Proof.Machine

open Sys2Proof.Config

/-! ### The band of an interval -/

/-- In an ascending table a number at or above a bound is at or above every bound before it (R146). -/
theorem isBelow_eq_false_of_ascending {a b : Cycles} {e : Int} (a_den : 0 < a.den) (b_den : 0 < b.den)
    (ascends : a.num * (b.den : Int) < b.num * (a.den : Int)) (above : isBelow e b = false) : isBelow e a = false := by
  rw [← Bool.not_eq_true, isBelow_iff, not_lt] at above ⊢
  have a_pos : (0 : Int) < a.den := by exact_mod_cast a_den
  have b_pos : (0 : Int) < b.den := by exact_mod_cast b_den
  refine le_of_mul_le_mul_right ?_ b_pos
  calc a.num * (b.den : Int) ≤ b.num * a.den := ascends.le
    _ ≤ e * b.den * a.den := by gcongr
    _ = e * a.den * b.den := by ring

/-- The band of `e` is the first whose bound it lies below. -/
theorem bandOf_eq_some {bands : List Band} {e : Int} {k : Nat} {b : Band} (at_k : bands[k]? = some b)
    (below : isBelow e b.hi = true) (above : ∀ j < k, ∀ a, bands[j]? = some a → isBelow e a.hi = false) :
    bandOf bands e = some b := by
  obtain ⟨k_lt, rfl⟩ := List.getElem?_eq_some_iff.1 at_k
  refine List.find?_eq_some_iff_getElem.2 ⟨below, k, k_lt, rfl, fun j j_lt => ?_⟩
  rw [above j j_lt _ (List.getElem?_eq_getElem (j_lt.trans k_lt)), Bool.not_false]

theorem bandOf_eq_none {bands : List Band} {e : Int} (above : ∀ b ∈ bands, isBelow e b.hi = false) :
    bandOf bands e = none :=
  List.find?_eq_none.2 fun b hb => by simp only [above b hb, Bool.false_eq_true, not_false_eq_true]

/-! ### Counting with a band, and without one -/

section
variable {p : Params} {cycles : Word} {jitterIn : SWord}

theorem bitCount_of_band {b : Band} (h : bandOf p.bandTable (effectiveInterval cycles jitterIn) = some b) :
    bitCount p cycles jitterIn =
      if b.n = 0 then { n := 0, jitter := jitterIn.toInt - cycles.toNat }
      else
        { n := b.n
          jitter := if b.x < effectiveInterval cycles jitterIn then effectiveInterval cycles jitterIn - b.x else 0 } := by
  simp only [bitCount, h]

theorem bitCount_of_no_band (h : bandOf p.bandTable (effectiveInterval cycles jitterIn) = none) :
    bitCount p cycles jitterIn = { n := fallbackCount p.t (effectiveInterval cycles jitterIn), jitter := 0 } := by
  simp only [bitCount, h]

end

/-- BIT_TIME_DECODE answers the two values of the decoder, and writes nothing else (R147). -/
theorem exec_bitTimeDecode (cycles : Word) (jitterIn : SWord) (ts : Stamp) (s : State) :
    exec (.bitTimeDecode cycles jitterIn ts) s = .next { s with
      result := .bitTime (BitVec.ofNat 32 (bitCount s.params cycles jitterIn).n)
        (BitVec.ofInt 32 (bitCount s.params cycles jitterIn).jitter) } := rfl

/-- Settles O20: `e` is above every bound before that of its band, as it is above the last of them. -/
theorem bitTimeDecodeFollowsAnyBandTable : Obligations.BitTimeDecodeFollowsAnyBandTable := by
  intro s cycles jitterIn ts e below dens ascends
  have below_iff (c : Cycles) : isBelow e c = true ↔ below c := isBelow_iff e c
  constructor
  · intro k b at_k below_b above
    have earlier (j : Nat) (j_lt : j < k) (a : Band) (at_j : s.params.bandTable[j]? = some a) :
        isBelow e a.hi = false := by
      obtain ⟨k_lt, -⟩ := List.getElem?_eq_some_iff.1 at_k
      obtain ⟨j_lt_length, rfl⟩ := List.getElem?_eq_some_iff.1 at_j
      have last_lt : k - 1 < s.params.bandTable.length := by omega
      have last_above : isBelow e s.params.bandTable[k - 1].hi = false := by
        rw [← Bool.not_eq_true, below_iff]
        exact above _ (by omega) (List.getElem?_eq_getElem last_lt)
      rcases Nat.lt_or_ge j (k - 1) with j_lt_last | last_le
      · exact isBelow_eq_false_of_ascending (dens _ (List.getElem_mem _)) (dens _ (List.getElem_mem _))
          (List.pairwise_iff_getElem.1 ascends j (k - 1) j_lt_length last_lt j_lt_last) last_above
      · obtain rfl : j = k - 1 := by omega
        exact last_above
    rw [exec_bitTimeDecode, bitCount_of_band (bandOf_eq_some at_k ((below_iff _).2 below_b) earlier)]
    split <;> rfl
  · intro above
    have none_holds : bandOf s.params.bandTable e = none :=
      bandOf_eq_none fun b hb => by rw [← Bool.not_eq_true, below_iff]; exact above b hb
    rw [exec_bitTimeDecode, bitCount_of_no_band none_holds]
    rfl

/-! ### The reference table -/

/-- The estimate of R145 is at most `k` for exactly the `e` below the bound of reference band `k` (R142). -/
theorem fallbackCount_le_iff {t : Nat} (t_pos : 0 < t) (e : Int) (k : Nat) :
    fallbackCount t e ≤ k ↔ 2 * e < (2 * k + 1) * t := by
  have two_t_pos : (0 : Int) < 2 * t := by exact_mod_cast Nat.mul_pos Nat.two_pos t_pos
  rw [fallbackCount, Int.toNat_le, ← Int.lt_add_one_iff, Int.ediv_lt_iff_lt_mul two_t_pos,
    show ((k : Int) + 1) * (2 * t) = (2 * k + 1) * t + t by ring]
  exact Int.add_lt_add_iff_right _

/-- The table has the counts and the multiples of the reference bands at `t`, and its bounds are theirs as exact numbers,
however they are written. -/
def ReferenceBandsAt (t : Nat) (bands : List Band) : Prop :=
  ∃ hi : Nat → Cycles, (∀ k e, isBelow e (hi k) = isBelow e (halfBitBound t k)) ∧
    bands = (List.range 11).map fun k => { hi := hi k, n := k, x := (k * t : Nat) }

theorem referenceBandsAt_referenceBands (t : Nat) : ReferenceBandsAt t (referenceBands t) :=
  ⟨halfBitBound t, fun _ _ => rfl, rfl⟩

/-- Scaling multiplies `T` exactly where the product is whole (R148). -/
theorem den_mul_scaleClock_t {num den t : Nat} (whole : den ∣ num * t) :
    den * (scaleClock num den (paramsAt t)).t = num * t := Nat.mul_div_cancel' whole

/-- The scaled reference table is the reference table at the scaled bit-time (R148). -/
theorem referenceBandsAt_scaleClock {num den t : Nat} (den_pos : 0 < den) (whole : den ∣ num * t) :
    ReferenceBandsAt (scaleClock num den (paramsAt t)).t (scaleClock num den (paramsAt t)).bandTable := by
  have scaled_t : num * t = den * (scaleClock num den (paramsAt t)).t := (den_mul_scaleClock_t whole).symm
  generalize scaled : (scaleClock num den (paramsAt t)).t = t' at scaled_t ⊢
  have multiple (k : Nat) : (num : Int) * (k * t : Nat) / den = (k * t' : Nat) := by
    refine Int.ediv_eq_of_eq_mul_right (by exact_mod_cast den_pos.ne') ?_
    exact_mod_cast show num * (k * t) = den * (k * t') by rw [Nat.mul_left_comm, scaled_t, Nat.mul_left_comm]
  refine ⟨fun k => scaleCycles num den (halfBitBound t k),
    fun k e => isBelow_scaled_halfBitBound den_pos scaled_t k e, ?_⟩
  simp only [scaleClock, paramsAt, referenceBands, List.map_map, Function.comp_def, scaleBand, multiple]

section
variable {t : Nat} {bands : List Band}

/-- Up to ten bit-times, the band of `e` is the one numbered by the estimate. -/
theorem ReferenceBandsAt.bandOf_eq (h : ReferenceBandsAt t bands) (t_pos : 0 < t) {e : Int}
    (le : fallbackCount t e ≤ 10) :
    ∃ hi, bandOf bands e = some { hi := hi, n := fallbackCount t e, x := (fallbackCount t e * t : Nat) } := by
  obtain ⟨hi, same, rfl⟩ := h
  have below_iff (k : Nat) : isBelow e (hi k) = true ↔ fallbackCount t e ≤ k := by
    rw [same, isBelow_halfBitBound, fallbackCount_le_iff t_pos]
  refine ⟨_, bandOf_eq_some (k := fallbackCount t e) ?_ ((below_iff _).2 le_rfl) fun j j_lt a at_j => ?_⟩
  · rw [List.getElem?_map, List.getElem?_range (by omega)]
    rfl
  · rw [List.getElem?_map, List.getElem?_range (by omega)] at at_j
    cases at_j
    rw [← Bool.not_eq_true, below_iff]
    omega

/-- Above ten bit-times there is no band. -/
theorem ReferenceBandsAt.bandOf_eq_none (h : ReferenceBandsAt t bands) (t_pos : 0 < t) {e : Int}
    (gt : 10 < fallbackCount t e) : bandOf bands e = none := by
  obtain ⟨hi, same, rfl⟩ := h
  refine Machine.bandOf_eq_none fun b hb => ?_
  obtain ⟨k, hk, rfl⟩ := List.mem_map.1 hb
  have k_lt := List.mem_range.1 hk
  rw [same, ← Bool.not_eq_true, isBelow_halfBitBound, ← fallbackCount_le_iff t_pos]
  omega

end

/-- With the reference table the count is the estimate, in the bands too; only the carry tells them apart (R142 to
R145). -/
theorem bitCount_of_referenceBandsAt {p : Params} (h : ReferenceBandsAt p.t p.bandTable) (t_pos : 0 < p.t)
    (cycles : Word) (jitterIn : SWord) :
    let e := effectiveInterval cycles jitterIn
    let n := fallbackCount p.t e
    bitCount p cycles jitterIn =
      { n := n
        jitter :=
          if n = 0 then jitterIn.toInt - cycles.toNat
          else if n ≤ 10 then if (n * p.t : Nat) < e then e - (n * p.t : Nat) else 0
          else 0 } := by
  intro e n
  rcases Nat.lt_or_ge 10 n with gt | le
  · rw [bitCount_of_no_band (h.bandOf_eq_none t_pos gt), if_neg (by omega), if_neg (by omega)]
  · obtain ⟨hi, band⟩ := h.bandOf_eq t_pos le
    rw [bitCount_of_band band, if_pos le]
    by_cases zero : n = 0
    · rw [if_pos zero, if_pos zero, zero]
    · rw [if_neg zero, if_neg zero]

/-- Settles O19: the three ranges of the formula are those where the count is 0, from 1 to 10, and above. -/
theorem bitTimeDecodeMatchesTheFormula : Obligations.BitTimeDecodeMatchesTheFormula := by
  refine ⟨fun num den t _ whole => den_mul_scaleClock_t whole, ?_⟩
  intro s cycles jitterIn ts t_pos table t e k
  have bands : ReferenceBandsAt s.params.t s.params.bandTable := by
    rcases table with table | ⟨num, den, t0, den_pos, whole, scaled⟩
    · exact table ▸ referenceBandsAt_referenceBands s.params.t
    · exact scaled ▸ referenceBandsAt_scaleClock den_pos whole
  have e_eq : effectiveInterval cycles jitterIn = e := rfl
  have count := bitCount_of_referenceBandsAt bands t_pos cycles jitterIn
  have zero_iff : fallbackCount s.params.t e = 0 ↔ 2 * e < t := by
    rw [← Nat.le_zero, fallbackCount_le_iff t_pos]
    simp [t]
  have last_iff : ¬ fallbackCount s.params.t e ≤ 10 ↔ 21 * t ≤ 2 * e := by
    rw [fallbackCount_le_iff t_pos, not_lt]
    norm_num [t]
  have n_eq : ((fallbackCount s.params.t e : Nat) : Int) = max k 0 := Int.ofNat_toNat k
  dsimp only at count
  rw [exec_bitTimeDecode, count, e_eq]
  generalize fallbackCount s.params.t e = n at zero_iff last_iff n_eq ⊢
  by_cases zero : n = 0
  · rw [if_pos zero, if_pos (zero_iff.1 zero), zero]
    rfl
  · have k_eq : k = n := by omega
    rw [if_neg zero, if_neg (mt zero_iff.2 zero), k_eq, BitVec.ofInt_natCast]
    by_cases in_band : n ≤ 10
    · rw [if_pos in_band, if_neg (fun last => last_iff.2 last in_band), Nat.cast_mul]
    · rw [if_neg in_band, if_pos (last_iff.1 in_band)]
      rfl

end Sys2Proof.Machine
end

section
/-! SUPPORT. The jitter register (40_bit_time_decoder.md R149): what the decoder and the correction step leave in it with the
reference tables, and which value each step of the receive engine can give it. -/

namespace Sys2Proof.Machine

open Sys2Proof.Config

/-! ### The carry's range -/

/-- A carry in `[-T, T/2)` (R149). -/
def CarryInRange (t : Nat) (j : Int) : Prop := -(t : Int) ≤ j ∧ 2 * j < t

theorem jitterInRange_iff (s : State) : JitterInRange s ↔ CarryInRange s.params.t s.jitter.toInt := Iff.rfl

theorem carryInRange_zero {t : Nat} (t_pos : 0 < t) : CarryInRange t 0 := ⟨by omega, by omega⟩

theorem carryInRange_neg {t : Nat} (t_pos : 0 < t) : CarryInRange t (-t) := ⟨by omega, by omega⟩

/-- The register holds every carry of the range. -/
theorem CarryInRange.ofInt {t : Nat} {j : Int} (h : CarryInRange t j) (t_le : t ≤ 2 ^ 31) :
    CarryInRange t (BitVec.ofInt 32 j).toInt := by
  obtain ⟨ge, lt⟩ := h
  rw [BitVec.toInt_ofInt_eq_self (by decide) (by omega) (by omega)]
  exact ⟨ge, lt⟩

section
variable {p : Params}

theorem ReferenceTables.bandsAt (tables : ReferenceTables p) : ReferenceBandsAt p.t p.bandTable :=
  tables.bands ▸ referenceBandsAt_referenceBands p.t

/-- The decoder keeps the range: the first band leaves `-e`, which the carry before it and `2e < T` bound, and band `n`
what of `e` exceeds `n*T`, which is less than half a bit-time (R143 to R145). -/
theorem bitCount_carryInRange (tables : ReferenceTables p) (cycles : Word) {jitterIn : SWord}
    (before : CarryInRange p.t jitterIn.toInt) : CarryInRange p.t (bitCount p cycles jitterIn).jitter := by
  obtain ⟨ge, lt⟩ := before
  have e_eq : effectiveInterval cycles jitterIn = cycles.toNat - jitterIn.toInt := rfl
  have t_pos := tables.t_pos
  rw [bitCount_of_referenceBandsAt tables.bandsAt t_pos]
  generalize effectiveInterval cycles jitterIn = e at e_eq ⊢
  have below := (fallbackCount_le_iff t_pos e _).1 le_rfl
  generalize fallbackCount p.t e = n at below ⊢
  dsimp only
  split
  · next zero =>
    rw [zero] at below
    exact ⟨by omega, by omega⟩
  · split
    · split
      · next exceeds => exact ⟨by omega, by push_cast; linarith⟩
      · exact carryInRange_zero t_pos
    · exact carryInRange_zero t_pos

/-- Every entry of the reference correction table seeds `-T` (42_rx_decoder.md R188). -/
theorem jitter_of_mem_referenceCorrections {t : Nat} {c : RunCorrection} (h : c ∈ referenceCorrections t) :
    c.jitter = -t := by
  simp only [referenceCorrections, referenceCorrectionsOf, List.mem_flatMap, List.mem_map] at h
  obtain ⟨-, -, -, -, -, -, -, -, rfl⟩ := h
  rfl

/-- The correction step leaves the decoder's carry, or seeds `-T` (R188). -/
theorem correctRun_jitter (tables : ReferenceTables p) (v : Bit) (o : Nat) (r : BitCount) (slot : RxSlot) :
    (correctRun p v o r slot).jitter = r.jitter ∨ (correctRun p v o r slot).jitter = -p.t := by
  unfold correctRun
  split
  · exact .inl rfl
  · next c found =>
    have listed : c ∈ p.runCorrections := List.mem_of_find?_eq_some found
    exact .inr (jitter_of_mem_referenceCorrections (tables.corrections ▸ listed))

end

/-! ### What the receive engine leaves in the register -/

/-- The carry that a run of `cycles` cycles leaves once it is corrected (R184, R188). -/
def RunCarry (s : State) (w : SWord) : Prop :=
  ∃ (v : Bit) (cycles : Word) (slot : RxSlot),
    w = BitVec.ofInt 32 (correctRun s.params v s.nBits (bitCount s.params cycles s.jitter) slot).jitter

@[simp] theorem runCarry_cancelTimer (s : State) (w : SWord) : RunCarry (cancelTimer s) w ↔ RunCarry s w := Iff.rfl

@[simp] theorem runCarry_edgePrologue (s : State) (level : Bit) (now : Word) (w : SWord) :
    RunCarry (edgePrologue level now s) w ↔ RunCarry s w := Iff.rfl

theorem RunCarry.inRange {s : State} {w : SWord} (h : RunCarry s w) (tables : ReferenceTables s.params)
    (before : JitterInRange s) : CarryInRange s.params.t w.toInt := by
  obtain ⟨v, cycles, slot, rfl⟩ := h
  refine CarryInRange.ofInt ?_ tables.t_le
  rcases correctRun_jitter tables v s.nBits (bitCount s.params cycles s.jitter) slot with e | e <;> rw [e]
  · exact bitCount_carryInRange tables cycles before
  · exact carryInRange_neg tables.t_pos

section
variable {s s' : State} {slot : RxSlot} {ts : Stamp}

theorem clearHead_jitter (slot : RxSlot) (s : State) : (clearHead slot s).jitter = s.jitter := by
  unfold clearHead
  split <;> simp

theorem complete_jitter {result : RxResult} {ms : Word} (h : complete result ms slot s = .next s') : s'.jitter = 0 := by
  rcases complete_next h with ⟨-, rfl⟩ | ⟨-, h⟩
  · simp
  · obtain ⟨next, -, rfl⟩ := advanceHead_next h
    simp [clearHead_jitter]

theorem sofGroup_jitter (g : Group) (slot : RxSlot) (s : State) :
    (sofGroup g slot s).jitter = s.jitter ∨ (sofGroup g slot s).jitter = 0 := by
  rcases sofGroup_cases g slot s with ⟨-, e⟩ | ⟨-, e⟩ <;> rw [e]
  · exact .inl rfl
  · exact .inr rfl

theorem loadGroup_jitter {g : Group} (h : loadGroup g ts slot s = .next s') : s'.jitter = s.jitter ∨ s'.jitter = 0 := by
  rcases loadGroup_next h with ⟨-, h⟩ | ⟨-, -, -, rfl⟩ | ⟨-, -, rfl⟩
  · exact .inr (complete_jitter h)
  · exact .inl rfl
  · exact .inl rfl

theorem takeGroup_jitter (h : takeGroup ts slot s = .next s') : s'.jitter = s.jitter ∨ s'.jitter = 0 := by
  rcases takeGroup_next h with ⟨-, rfl⟩ | ⟨-, h⟩
  · exact sofGroup_jitter _ slot (dropGroup s)
  · simpa using loadGroup_jitter h

theorem acceptRun_jitter {v : Bit} {r : BitCount} (h : acceptRun v r ts slot s = .next s') :
    s'.jitter = BitVec.ofInt 32 (correctRun s.params v s.nBits r slot).jitter ∨ s'.jitter = 0 := by
  rcases acceptRun_next h with ⟨-, h⟩ | ⟨-, rfl⟩
  · exact takeGroup_jitter h
  · exact .inl rfl

theorem runStep_jitter {level : Bit} {cycles : Word} (h : runStep level cycles ts slot s = .next s') :
    RunCarry s s'.jitter ∨ s'.jitter = 0 := by
  rcases runStep_next h with ⟨-, -, rfl⟩ | ⟨-, -, h⟩ | ⟨-, h⟩
  · exact .inr rfl
  · exact .inr (complete_jitter h)
  · exact (acceptRun_jitter h).imp_left fun e => ⟨!level, cycles, slot, e⟩

theorem ackEdge_jitter {level : Bit} {cycles : Word} (h : ackEdge level cycles ts slot s = .next s') :
    RunCarry s s'.jitter ∨ s'.jitter = 0 := by
  rcases ackEdge_next h with ⟨-, h⟩ | ⟨-, h⟩
  · exact .inr (complete_jitter h)
  · simpa using runStep_jitter h

theorem vacantEdge_jitter (level : Bit) (slot : RxSlot) (s : State) :
    (vacantEdge level slot s).jitter = s.jitter ∨ (vacantEdge level slot s).jitter = 0 := by
  cases level
  · exact .inr rfl
  · exact .inl rfl

theorem edgeHandler_jitter {level : Bit} (h : edgeHandler level ts s = .next s') :
    s'.jitter = s.jitter ∨ RunCarry s s'.jitter ∨ s'.jitter = 0 := by
  obtain ⟨slot, -, ⟨-, rfl⟩ | ⟨-, h⟩ | ⟨-, h⟩⟩ := edgeHandler_next h
  · exact (vacantEdge_jitter level slot (edgePrologue level ts.now s)).imp_right .inr
  · exact .inr (by simpa using runStep_jitter h)
  · exact .inr (by simpa using ackEdge_jitter h)

theorem ackTimeoutHandler_jitter (h : ackTimeoutHandler ts s = .next s') : s'.jitter = s.jitter ∨ s'.jitter = 0 := by
  obtain ⟨slot, -, ⟨-, h⟩ | ⟨-, rfl⟩⟩ := ackTimeoutHandler_next h
  · exact .inr (complete_jitter h)
  · exact .inl rfl

end

/-! ### Operations and steps -/

/-- All that a step can do to the jitter register, the build's parameters being what they were. -/
structure JitterMove (s s' : State) : Prop where
  params : s'.params = s.params
  jitter : s'.jitter = s.jitter ∨ RunCarry s s'.jitter ∨ s'.jitter = 0

section
variable {s s' : State}

theorem sendPass_jitterMove {h : Send} {ms : Word} (run : sendPass h ms s = .next s') : JitterMove s s' := by
  have outside := (sendPass_writes run).outside
  simp only [State.outsideSend, State.mk.injEq] at outside
  exact ⟨by simp [outside], .inl (by simp [outside])⟩

theorem ackTimeoutHandler_jitterMove {ts : Stamp} (h : ackTimeoutHandler ts s = .next s') : JitterMove s s' :=
  ⟨(ackTimeoutHandler_rxOnly h).params, (ackTimeoutHandler_jitter h).imp_right .inr⟩

/-- No operation writes the parameters, and besides SETUP only the receive events write the register (20_memory.md R89). -/
theorem exec_jitter_writers {i : Instr} (h : exec i s = .next s') :
    s'.params = s.params ∧ (i.op ∉ [0x01, 0x80, 0x81] → s'.jitter = s.jitter) := by
  obtain ⟨params, -, -, -, -, -, -, -, -, -, -, -, -, -, -, -, decoder, -, -⟩ := everyFieldHasItsWriters i s s' h
  refine ⟨params, fun other => ?_⟩
  obtain ⟨-, -, -, jitter, -⟩ := decoder other
  exact jitter

theorem exec_jitterMove {i : Instr} (h : exec i s = .next s') : JitterMove s s' := by
  obtain ⟨params, kept⟩ := exec_jitter_writers h
  refine ⟨params, ?_⟩
  cases i with
  | setup rxPin txPin capacity ts =>
    rcases execSetup_cases rxPin txPin capacity ts s with ⟨-, e⟩ | ⟨-, -, e⟩ <;> cases e.symm.trans h
    · exact .inl rfl
    · exact .inr (.inr rfl)
  | evEdge level ts =>
    rcases deliver_next h with ⟨-, h⟩ | ⟨-, rfl⟩
    · exact edgeHandler_jitter h
    · exact .inl rfl
  | evAckTimeout ts =>
    rcases deliver_next h with ⟨-, h⟩ | ⟨-, rfl⟩
    · exact (ackTimeoutHandler_jitter h).imp_right .inr
    · exact .inl rfl
  | _ => exact .inl (kept (by simp [Instr.op]))

/-- A step is a pass of the host, a timeout that is due, or the next operation. -/
theorem step_jitterMove (h : step s = .next s') : JitterMove s s' := by
  rcases step_next h with h | ⟨i, rest, -, -, ⟨-, h⟩ | ⟨-, h⟩⟩
  · rcases hostPoll_next h with ⟨-, rfl⟩ | ⟨p, -, h⟩
    · exact ⟨rfl, .inl rfl⟩
    · exact sendPass_jitterMove h
  · exact ackTimeoutHandler_jitterMove h
  · exact { exec_jitterMove h with }

end

theorem reset_referenceTables : ReferenceTables State.reset.params where
  t_pos := by decide
  t_le := by decide
  bands := rfl
  corrections := rfl

/-- Settles O21: a step keeps the carry, clears it, or takes it from a run, and the carry of a run is in range. -/
theorem jitterStaysInRange : Obligations.JitterStaysInRange := by
  refine ⟨⟨reset_referenceTables, carryInRange_zero reset_referenceTables.t_pos⟩, fun s s' tables before h => ?_⟩
  have move := step_jitterMove h
  rw [jitterInRange_iff, move.params]
  rcases move.jitter with kept | carried | cleared
  · rwa [kept]
  · exact carried.inRange tables before
  · rw [cleared]
    exact carryInRange_zero tables.t_pos

end Sys2Proof.Machine
end

section
/-! SUPPORT. The transmit stream of a frame (41_frame_codec.md R164): its length, and its bits by group. -/

namespace Sys2Proof.Machine

open Sys2Proof.Config

theorem stuffStream_concat (bs : List Byte) (b : Byte) :
    stuffStream (bs ++ [b]) = stuffBits (bs ++ [b]) ++ List.replicate txTrailerBits true :=
  if_neg (by simp)

theorem stuffStream_length (bs : List Byte) (b : Byte) :
    (stuffStream (bs ++ [b])).length = 10 * (bs.length + 1) + 10 := by
  rw [stuffStream_concat, List.length_append, stuffBits_length, List.length_replicate, txTrailerBits]
  omega

/-- The stream holds group `k` at positions `10k` to `10k + 9`, bit 9 first. -/
theorem stuffStream_of_group {bs : List Byte} {b : Byte} {k j : Nat} {g : Group}
    (group : (stuffGroups (bs ++ [b]))[k]? = some g) (hj : j < 10) :
    (stuffStream (bs ++ [b]))[10 * k + j]? = some (g.getLsbD (9 - j)) := by
  have bit : (stuffBits (bs ++ [b]))[10 * k + j]? = some (g.getLsbD (9 - j)) := by
    rw [stuffBits, groupStream_getElem?, show (10 * k + j) / 10 = k by omega, show (10 * k + j) % 10 = j by omega,
      group]
    rfl
  rw [stuffStream_concat, List.getElem?_append_left (List.getElem?_eq_some_iff.1 bit).1, bit]

theorem stuffGroups_before_last {bs : List Byte} (b : Byte) {k : Nat} (hk : k < bs.length) :
    (stuffGroups (bs ++ [b]))[k]? = some (encGroup (bs.getD k 0)) := by
  rw [stuffGroups_concat, List.getElem?_append_left (by simpa using hk), List.getElem?_map, List.getD_eq_getElem _ _ hk,
    List.getElem?_eq_getElem hk]
  rfl

theorem stuffGroups_last (bs : List Byte) (b : Byte) : (stuffGroups (bs ++ [b]))[bs.length]? = some (eodGroup b) := by
  rw [stuffGroups_concat, ← List.length_map encGroup, List.getElem?_concat_length]

/-- After the groups the stream is recessive. -/
theorem stuffStream_trailer (bs : List Byte) (b : Byte) {j : Nat} (hj : j < txTrailerBits) :
    (stuffStream (bs ++ [b]))[10 * (bs.length + 1) + j]? = some true := by
  have start : 10 * (bs.length + 1) = (stuffBits (bs ++ [b])).length := (stuffBits_length bs b).symm
  rw [stuffStream_concat, start, List.getElem?_append_right (Nat.le_add_right _ _), Nat.add_sub_cancel_left,
    List.getElem?_replicate_of_lt hj]

theorem exec_stuffFrame (f : Frame) (ts : Stamp) (s : State) :
    exec (.stuffFrame f ts) s = .next { s with result := .stream (stuffStream f.bytes) } := rfl

/-- Settles O16: the groups before the last are the stuffed bytes, the last is the EOD group, and the trailer follows. -/
theorem stuffFrameBuildsTheStream : Obligations.StuffFrameBuildsTheStream := by
  intro s ts f
  rw [exec_stuffFrame]
  refine ⟨fun empty => by rw [empty]; rfl, fun bs b frame => ⟨stuffStream (bs ++ [b]), by rw [frame], ?_⟩⟩
  exact ⟨stuffStream_length bs b, fun k hk j hj => stuffStream_of_group (stuffGroups_before_last b hk) hj,
    fun j hj => stuffStream_of_group (stuffGroups_last bs b) hj, fun j hj => stuffStream_trailer bs b hj⟩

end Sys2Proof.Machine
end

section
/-! SUPPORT. The receive decoder's operations as equations (42_rx_decoder.md R180 to R194): one for each branch, under the
condition that selects it. -/

namespace Sys2Proof.Machine

open Sys2Proof.Config

/-! ### Groups -/

section
variable {s : State} {slot : RxSlot} {ts : Stamp}

theorem takeGroup_of_searching (searching : slot.state = .searching) :
    takeGroup ts slot s = .next (sofGroup (oldestGroup s) slot (dropGroup s)) := if_pos searching

theorem takeGroup_of_loading (loading : slot.state = .loading) :
    takeGroup ts slot s = loadGroup (oldestGroup s) ts slot (dropGroup s) := if_neg (by simp [loading])

theorem isSof_iff (p : Params) (g : Group) : isSof p g = true ↔ g ∈ p.sofAccept := List.contains_iff_mem

theorem isEod_iff (p : Params) (g : Group) : isEod p g = true ↔ g.extractLsb' 0 2 ∈ p.eodAccept := List.contains_iff_mem

theorem sofGroup_of_accepted {g : Group} (accepted : g ∈ s.params.sofAccept) :
    sofGroup g slot s = s.putRx s.head
      { slot with bytes := writeByte slot.bytes 0 sofByte, size := 1, state := .loading } :=
  if_pos ((isSof_iff s.params g).2 accepted)

theorem sofGroup_of_rejected {g : Group} (rejected : g ∉ s.params.sofAccept) :
    sofGroup g slot s = endSearch slot s := if_neg (mt (isSof_iff s.params g).1 rejected)

theorem loadGroup_of_full {g : Group} (full : maxFrame ≤ slot.size) :
    loadGroup g ts slot s = complete .errorMaxPacket ts.ms slot s := if_pos full

theorem endsData_iff (p : Params) (g : Group) (slot : RxSlot) :
    (isEod p g && decide (minEodSize ≤ (storeGroup g slot).size)) = true ↔
      g.extractLsb' 0 2 ∈ p.eodAccept ∧ minEodSize ≤ slot.size + 1 := by
  rw [Bool.and_eq_true, isEod_iff, decide_eq_true_iff]
  rfl

theorem loadGroup_of_eod {g : Group} (room : slot.size < maxFrame) (eod : g.extractLsb' 0 2 ∈ s.params.eodAccept)
    (long : minEodSize ≤ slot.size + 1) :
    loadGroup g ts slot s = .next (enterWaitAck ts.now (storeGroup g slot) s) :=
  (if_neg (Nat.not_le.2 room)).trans (if_pos ((endsData_iff s.params g slot).2 ⟨eod, long⟩))

theorem loadGroup_of_data {g : Group} (room : slot.size < maxFrame)
    (data : g.extractLsb' 0 2 ∉ s.params.eodAccept ∨ slot.size + 1 < minEodSize) :
    loadGroup g ts slot s = .next (s.putRx s.head (storeGroup g slot)) := by
  refine (if_neg (Nat.not_le.2 room)).trans (if_neg ?_)
  rw [endsData_iff]
  rintro ⟨eod, long⟩
  exact data.elim (absurd eod) long.not_gt

/-! ### Runs -/

/-- The accumulator once a run of `n` bits is appended that ends with an edge to `level`: the run has the other level
(R184). -/
def runBits (level : Bit) (n : Nat) (s : State) : BitVec 20 :=
  (s.readBits <<< n) ||| (if level then 0 else BitVec.ofNat 20 (2 ^ n - 1))

/-- The group such a run fills: the oldest ten bits (R185). -/
def runGroup (level : Bit) (n : Nat) (s : State) : Group := (runBits level n s >>> (s.nBits + n - 10)).setWidth 10

/-- The state in which that group is tested or loaded: the edge's prologue done, the carry taken from the run `f`, and the
bits after the group left in the accumulator (R181, R184, R185). -/
def groupState (level : Bit) (now : Word) (f : FixedRun) (s : State) : State :=
  { s with
    prevEdgeTime := now
    lastBusActivity := if level then now else s.lastBusActivity
    jitter := BitVec.ofInt 32 f.jitter
    readBits := runBits level f.n s &&& BitVec.ofNat 20 (2 ^ (s.nBits + f.n - 10) - 1)
    nBits := s.nBits + f.n - 10 }

theorem appendRun_not (level : Bit) (n : Nat) (jitter : Int) (s : State) :
    appendRun (!level) n jitter s =
      { s with jitter := BitVec.ofInt 32 jitter, readBits := runBits level n s, nBits := s.nBits + n } := by
  cases level
  · rfl
  · rfl

theorem oldestGroup_appendRun (level : Bit) (n : Nat) (jitter : Int) (s : State) :
    oldestGroup (appendRun (!level) n jitter s) = runGroup level n s := by
  rw [appendRun_not]
  rfl

theorem dropGroup_appendRun (level : Bit) (now : Word) (f : FixedRun) (s : State) :
    dropGroup (appendRun (!level) f.n f.jitter (edgePrologue level now s)) = groupState level now f s := by
  rw [appendRun_not]
  rfl

theorem acceptRun_of_few {v : Bit} {r : BitCount} (few : s.nBits + (correctRun s.params v s.nBits r slot).n < groupBits) :
    acceptRun v r ts slot s = .next
      ((appendRun v (correctRun s.params v s.nBits r slot).n (correctRun s.params v s.nBits r slot).jitter s).putRx s.head
        (correctRun s.params v s.nBits r slot).slot) := if_neg few.not_ge

theorem acceptRun_of_group {v : Bit} {r : BitCount}
    (group : groupBits ≤ s.nBits + (correctRun s.params v s.nBits r slot).n) :
    acceptRun v r ts slot s = takeGroup ts (correctRun s.params v s.nBits r slot).slot
      (appendRun v (correctRun s.params v s.nBits r slot).n (correctRun s.params v s.nBits r slot).jitter s) :=
  if_pos group

theorem runStep_of_long_searching {level : Bit} {c : Word} (long : maxRunBits < (bitCount s.params c s.jitter).n)
    (searching : slot.state = .searching) : runStep level c ts slot s = .next (endSearch slot s) :=
  (if_pos long).trans (if_pos searching)

theorem runStep_of_long_loading {level : Bit} {c : Word} (long : maxRunBits < (bitCount s.params c s.jitter).n)
    (loading : slot.state = .loading) : runStep level c ts slot s = complete .errorNBits ts.ms slot s :=
  (if_pos long).trans (if_neg (by simp [loading]))

theorem runStep_of_short {level : Bit} {c : Word} (short : (bitCount s.params c s.jitter).n ≤ maxRunBits) :
    runStep level c ts slot s = acceptRun (!level) (bitCount s.params c s.jitter) ts slot s := if_neg short.not_gt

/-! ### The delivered edge -/

section
variable {level : Bit}

theorem exec_evEdge_of_enabled (on : s.configured = true) (host : s.rxHostEnabled = true)
    (bus : s.rxTxSuspended = false) : exec (.evEdge level ts) s = edgeHandler level ts s :=
  if_pos (by simp [edgeEnabled, on, host, bus])

theorem edgeHandler_of_vacant (at_head : s.rxSlots[s.head]? = some slot) (vacant : slot.state = .vacant) :
    edgeHandler level ts s = .next (vacantEdge level slot (edgePrologue level ts.now s)) := by
  simp [edgeHandler, at_head, vacant]

theorem edgeHandler_of_running (at_head : s.rxSlots[s.head]? = some slot)
    (running : slot.state = .searching ∨ slot.state = .loading) :
    edgeHandler level ts s = runStep level (ts.now - s.prevEdgeTime) ts slot (edgePrologue level ts.now s) := by
  rcases running with searching | loading
  · simp [edgeHandler, at_head, searching, elapsed]
  · simp [edgeHandler, at_head, loading, elapsed]

theorem edgeHandler_of_waiting (at_head : s.rxSlots[s.head]? = some slot) (waiting : slot.state = .waitingAck) :
    edgeHandler level ts s = ackEdge level (ts.now - s.prevEdgeTime) ts slot (edgePrologue level ts.now s) := by
  simp [edgeHandler, at_head, waiting, elapsed]

/-- A run of legal length that fills no group is appended (R184). -/
theorem edgeHandler_of_few (at_head : s.rxSlots[s.head]? = some slot)
    (running : slot.state = .searching ∨ slot.state = .loading) :
    let r := bitCount s.params (ts.now - s.prevEdgeTime) s.jitter
    let f := correctRun s.params (!level) s.nBits r slot
    r.n ≤ maxRunBits → s.nBits + f.n < groupBits →
    edgeHandler level ts s =
      .next ((appendRun (!level) f.n f.jitter (edgePrologue level ts.now s)).putRx s.head f.slot) := by
  intro r f short few
  rw [edgeHandler_of_running at_head running]
  exact (runStep_of_short (s := edgePrologue level ts.now s) short).trans (acceptRun_of_few few)

/-- A run of legal length that fills a group has the group taken (R184, R185). -/
theorem edgeHandler_of_group (at_head : s.rxSlots[s.head]? = some slot)
    (running : slot.state = .searching ∨ slot.state = .loading) :
    let r := bitCount s.params (ts.now - s.prevEdgeTime) s.jitter
    let f := correctRun s.params (!level) s.nBits r slot
    r.n ≤ maxRunBits → groupBits ≤ s.nBits + f.n →
    edgeHandler level ts s = takeGroup ts f.slot (appendRun (!level) f.n f.jitter (edgePrologue level ts.now s)) := by
  intro r f short group
  rw [edgeHandler_of_running at_head running]
  exact (runStep_of_short (s := edgePrologue level ts.now s) short).trans (acceptRun_of_group group)

end

end

/-! ### The obligations about runs and groups -/

theorem correctRun_slot_state (p : Params) (v : Bit) (o : Nat) (r : BitCount) (slot : RxSlot) :
    (correctRun p v o r slot).slot.state = slot.state := by
  obtain ⟨flag, e⟩ := correctRun_slot p v o r slot
  rw [e]

theorem correctRun_slot_size (p : Params) (v : Bit) (o : Nat) (r : BitCount) (slot : RxSlot) :
    (correctRun p v o r slot).slot.size = slot.size := by
  obtain ⟨flag, e⟩ := correctRun_slot p v o r slot
  rw [e]

/-- Settles O27: after its prologue an edge writes only what the receive engine writes, and neither register is of it. -/
theorem edgePrologueInEveryState : Obligations.EdgePrologueInEveryState := by
  intro s s' level ts h on host bus
  rw [exec_evEdge_of_enabled on host bus] at h
  obtain ⟨slot, -, writes⟩ := edgeHandler_writes h
  have outside := writes.outside
  simp only [State.outsideRx, State.mk.injEq] at outside
  simp [outside]

/-- Settles O29: the slot is VACANT still, so the edge after its prologue is `vacantEdge`. -/
theorem vacantEdgeStartsASearch : Obligations.VacantEdgeStartsASearch := by
  intro s slot ts on host bus at_head vacant
  rw [exec_evEdge_of_enabled on host bus, exec_evEdge_of_enabled on host bus, edgeHandler_of_vacant at_head vacant,
    edgeHandler_of_vacant at_head vacant]
  exact ⟨rfl, rfl⟩

/-- Settles O30: the prologue touches neither the jitter nor the parameters, so the count is that of the state before. -/
theorem overlongRunEndsTheFrame : Obligations.OverlongRunEndsTheFrame := by
  intro s slot level ts on host bus at_head long
  rw [exec_evEdge_of_enabled on host bus]
  constructor
  · intro searching
    rw [edgeHandler_of_running at_head (.inl searching),
      runStep_of_long_searching (s := edgePrologue level ts.now s) long searching]
    rfl
  · intro loading
    rw [edgeHandler_of_running at_head (.inr loading),
      runStep_of_long_loading (s := edgePrologue level ts.now s) long loading]
    rfl

/-- Settles O31: the bits appended are those of the level before the edge, which `appendRun_not` spells out. -/
theorem shortRunIsAppended : Obligations.ShortRunIsAppended := by
  intro s slot level ts on host bus at_head running r f short few
  rw [exec_evEdge_of_enabled on host bus, edgeHandler_of_few at_head running short few, appendRun_not]
  rfl

/-- Settles O32: the group is that of the bits then accumulated, and the correction step leaves the slot searching. -/
theorem firstGroupIsTheSofTest : Obligations.FirstGroupIsTheSofTest := by
  intro s slot level ts on host bus at_head searching r f bits left g short group
  have still : f.slot.state = .searching := (correctRun_slot_state ..).trans searching
  have tested : exec (.evEdge level ts) s = .next (sofGroup g f.slot (groupState level ts.now f s)) := by
    rw [exec_evEdge_of_enabled on host bus, edgeHandler_of_group at_head (.inl searching) short group,
      takeGroup_of_searching still, oldestGroup_appendRun, dropGroup_appendRun]
    rfl
  constructor
  · intro accepted
    rw [tested, sofGroup_of_accepted (s := groupState level ts.now f s) accepted]
    rfl
  · intro rejected
    rw [tested, sofGroup_of_rejected (s := groupState level ts.now f s) rejected]
    rfl

/-- Settles O33: the group is that of the bits then accumulated, and the correction step leaves state and size alone. -/
theorem laterGroupsAreLoaded : Obligations.LaterGroupsAreLoaded := by
  intro s slot level ts on host bus at_head loading r f bits left g decoded stored short group
  have still : f.slot.state = .loading := (correctRun_slot_state ..).trans loading
  have size : f.slot.size = slot.size := correctRun_slot_size ..
  have stored_eq : storeGroup g f.slot = stored := by
    rw [storeGroup, size]
    rfl
  have loaded : exec (.evEdge level ts) s = loadGroup g ts f.slot decoded := by
    rw [exec_evEdge_of_enabled on host bus, edgeHandler_of_group at_head (.inr loading) short group,
      takeGroup_of_loading still, oldestGroup_appendRun, dropGroup_appendRun]
    rfl
  rw [loaded]
  refine ⟨fun room data => ?_, fun room eod long => ?_, fun full => ?_⟩
  · rw [loadGroup_of_data (s := decoded) (size ▸ room) (size ▸ data), stored_eq]
    rfl
  · rw [loadGroup_of_eod (s := decoded) (size ▸ room) eod (size ▸ long), stored_eq]
    rfl
  · exact loadGroup_of_full (size ▸ full)

end Sys2Proof.Machine
end

section
/-! SUPPORT. The correction step with the reference table (42_rx_decoder.md R188, R189): which runs the table lists, and which
bit a correction flags. -/

namespace Sys2Proof.Machine

open Sys2Proof.Config

/-! ### The table -/

theorem illegalRun_iff (o n : Nat) :
    illegalRun o n = true ↔ ∃ k, 1 ≤ k ∧ k < n ∧ ((o + k) % 10 = 4 ∨ (o + k) % 10 = 9) := by
  simp only [illegalRun, List.any_eq_true, List.mem_range, Bool.and_eq_true, Bool.or_eq_true, decide_eq_true_eq]
  exact exists_congr fun k => and_left_comm

theorem eodForm_iff (st : RxState) (v : Bit) (o n : Nat) :
    eodForm st v o n = true ↔ st = .loading ∧ v = false ∧ o = 5 ∧ n = 5 := by
  simp [eodForm, and_assoc]

/-- The three conditions of R188. -/
theorem swallowedCheckBit_iff (st : RxState) (v : Bit) (o n : Nat) :
    swallowedCheckBit st v o n = true ↔
      (n = 5 ∨ n = 10) ∧ (∃ k, 1 ≤ k ∧ k < n ∧ ((o + k) % 10 = 4 ∨ (o + k) % 10 = 9)) ∧
        ¬ (st = .loading ∧ v = false ∧ o = 5 ∧ n = 5) := by
  rw [swallowedCheckBit, Bool.and_eq_true, Bool.and_eq_true, Bool.or_eq_true, decide_eq_true_iff, decide_eq_true_iff,
    illegalRun_iff, Bool.not_eq_true', ← Bool.not_eq_true, eodForm_iff, and_assoc]

/-- The correction of a run of `n` bits that swallowed a check bit (R188). -/
def checkBitCorrection (t : Nat) (st : RxState) (v : Bit) (o n : Nat) : RunCorrection :=
  { state := st, level := v, atBitOffset := o, measuredBits := n, bits := n - 1, jitter := -(t : Int) }

/-- The reference table has one entry for each run of a SEARCHING or LOADING slot that swallowed a check bit. -/
theorem mem_referenceCorrections_iff {t : Nat} {c : RunCorrection} :
    c ∈ referenceCorrections t ↔ ∃ st v o n, (st = .searching ∨ st = .loading) ∧ o < 10 ∧
      swallowedCheckBit st v o n = true ∧ c = checkBitCorrection t st v o n := by
  simp only [referenceCorrections, referenceCorrectionsOf, List.mem_flatMap, List.mem_map, List.mem_filter,
    List.mem_range, List.mem_cons, List.not_mem_nil, or_false]
  constructor
  · rintro ⟨st, running, v, -, n, -, o, ⟨ho, swallowed⟩, rfl⟩
    exact ⟨st, v, o, n, running, ho, swallowed, rfl⟩
  · rintro ⟨st, v, o, n, running, ho, swallowed, rfl⟩
    obtain ⟨length, -, -⟩ := (swallowedCheckBit_iff st v o n).1 swallowed
    exact ⟨st, running, v, (Bool.eq_false_or_eq_true v).symm, n, length, o, ⟨ho, swallowed⟩, rfl⟩

/-- What a search of any table finds is listed in it under the run's own key. -/
theorem findCorrection_some {p : Params} {st : RxState} {v : Bit} {o n : Nat} {c : RunCorrection}
    (found : findCorrection p st v o n = some c) :
    c ∈ p.runCorrections ∧ c.state = st ∧ c.level = v ∧ c.atBitOffset = o ∧ c.measuredBits = n := by
  have key := List.find?_some found
  simp only [Bool.and_eq_true, decide_eq_true_eq, and_assoc] at key
  exact ⟨List.mem_of_find?_eq_some found, key⟩

section
variable {p : Params} {st : RxState} {v : Bit} {o n : Nat} (table : p.runCorrections = referenceCorrections p.t)
include table

theorem findCorrection_reference {c : RunCorrection} (found : findCorrection p st v o n = some c) :
    swallowedCheckBit st v o n = true ∧ c = checkBitCorrection p.t st v o n := by
  obtain ⟨listed, rfl, rfl, rfl, rfl⟩ := findCorrection_some found
  obtain ⟨st, v, o, n, -, -, swallowed, rfl⟩ := mem_referenceCorrections_iff.1 (table ▸ listed)
  exact ⟨swallowed, rfl⟩

theorem findCorrection_of_swallowed (running : st = .searching ∨ st = .loading) (ho : o < 10)
    (swallowed : swallowedCheckBit st v o n = true) :
    findCorrection p st v o n = some (checkBitCorrection p.t st v o n) := by
  have listed : checkBitCorrection p.t st v o n ∈ p.runCorrections :=
    table ▸ mem_referenceCorrections_iff.2 ⟨st, v, o, n, running, ho, swallowed, rfl⟩
  cases found : findCorrection p st v o n with
  | none => exact absurd (List.find?_eq_none.1 found _ listed) (by simp [checkBitCorrection])
  | some c => rw [(findCorrection_reference table found).2]

theorem findCorrection_of_not_swallowed (kept : swallowedCheckBit st v o n ≠ true) : findCorrection p st v o n = none := by
  cases found : findCorrection p st v o n with
  | none => rfl
  | some c => exact absurd (findCorrection_reference table found).1 kept

end

/-! ### The flagged bit -/

/-- A correction flags no check bit (R189). -/
theorem uncertainPos_not_check (size o n : Nat) : ¬ (uncertainPos size o n % 10 = 4 ∨ uncertainPos size o n % 10 = 9) := by
  unfold uncertainPos
  dsimp only
  split
  · omega
  · assumption

/-- The first correction flags the frame bit at the run's last position, if the frame can have it (R189). -/
theorem markUncertain_of_none {slot : RxSlot} (unflagged : slot.uncertain = none) (o n : Nat) :
    ∃ i, rawPos i = uncertainPos slot.size o n ∧
      markUncertain o n slot = if i < 8 * maxFrame then { slot with uncertain := some i } else slot := by
  obtain ⟨-, -, rawPos_of_bitOf, bitOf_none_iff⟩ := bitIndexMapsAreInverse
  cases bit : bitOf (uncertainPos slot.size o n) with
  | none => exact absurd ((bitOf_none_iff _).1 bit) (uncertainPos_not_check _ _ _)
  | some i => exact ⟨i, rawPos_of_bitOf _ i bit, by simp only [markUncertain, unflagged, bit]⟩

/-- Later corrections do not move the flag (R189). -/
theorem markUncertain_of_flagged {slot : RxSlot} (flagged : slot.uncertain ≠ none) (o n : Nat) :
    markUncertain o n slot = slot := by
  obtain ⟨i, flag⟩ := Option.ne_none_iff_exists'.1 flagged
  simp only [markUncertain, flag]

/-! ### The correction step -/

theorem correctRun_of_some {p : Params} {slot : RxSlot} {v : Bit} {o : Nat} {r : BitCount} {c : RunCorrection}
    (found : findCorrection p slot.state v o r.n = some c) :
    correctRun p v o r slot =
      { n := c.bits, jitter := c.jitter, slot := if slot.state = .loading then markUncertain o c.bits slot else slot } := by
  simp only [correctRun, found]

theorem correctRun_of_none {p : Params} {slot : RxSlot} {v : Bit} {o : Nat} {r : BitCount}
    (found : findCorrection p slot.state v o r.n = none) :
    correctRun p v o r slot = { n := r.n, jitter := r.jitter, slot := slot } := by
  simp only [correctRun, found]

/-- Settles O34: a run is in the table exactly when it swallowed a check bit, and its entry takes one bit and seeds `-T`. -/
theorem swallowedCheckBitCorrection : Obligations.SwallowedCheckBitCorrection := by
  intro p slot v o r table ho _ running illegal eodForm last
  have swallowed_iff := swallowedCheckBit_iff slot.state v o r.n
  constructor
  · intro swallowed
    rw [correctRun_of_some
      (findCorrection_of_swallowed table running (Nat.lt_succ_of_le ho) (swallowed_iff.2 swallowed))]
    refine ⟨rfl, rfl, fun unmoved => ?_, fun loading unflagged => ?_⟩
    · rcases unmoved with searching | flagged
      · exact if_neg (by simp [searching])
      · exact (congrArg (ite _ · slot) (markUncertain_of_flagged flagged o _)).trans (ite_self slot)
    · obtain ⟨i, position, marked⟩ := markUncertain_of_none unflagged o (r.n - 1)
      exact ⟨i, position, (if_pos loading).trans marked⟩
  · intro kept
    exact correctRun_of_none (findCorrection_of_not_swallowed table (mt swallowed_iff.1 kept))

end Sys2Proof.Machine
end

section
/-! SUPPORT. Completion (42_rx_decoder.md R196 to R198): what the drop policy reads, and the three ends of a completed frame. -/

namespace Sys2Proof.Machine

open Sys2Proof.Config

/-! ### What the drop policy reads -/

theorem countP_range_any {α : Type} (p : α → Bool) (l : List α) :
    (List.range l.length).countP (fun i => l[i]?.any p) = l.countP p := by
  induction l with
  | nil => rfl
  | cons x xs ih =>
    rw [List.length_cons, List.range_succ_eq_map, List.countP_cons, List.countP_map, List.countP_cons, ← ih]
    rfl

/-- Counting with one place left out is counting over the other indices. -/
theorem countP_eraseIdx {α : Type} (p : α → Bool) (l : List α) (k : Nat) :
    (l.eraseIdx k).countP p = (List.range l.length).countP fun i => decide (i ≠ k) && l[i]?.any p := by
  induction l generalizing k with
  | nil => rfl
  | cons x xs ih =>
    rw [List.length_cons, List.range_succ_eq_map, List.countP_cons, List.countP_map]
    cases k with
    | zero =>
      rw [List.eraseIdx_cons_zero, ← countP_range_any p xs]
      simp [Function.comp_def]
    | succ k =>
      rw [List.eraseIdx_cons_succ, List.countP_cons, ih]
      simp [Function.comp_def]

/-- R197's count of the other frames, as one over the indices other than `head`. -/
theorem othersDone_eq (s : State) :
    othersDone s = ((List.range s.rxSlots.length).filter fun i =>
      decide (i ≠ s.head) && (s.rxSlots[i]?.any fun x => decide (x.state = .done))).length := by
  rw [← List.countP_eq_length_filter]
  exact countP_eraseIdx _ _ _

theorem othersDone_completedState (result : RxResult) (ms : Word) (slot : RxSlot) (s : State) :
    othersDone (completedState result ms slot s) = othersDone s := by
  simp only [othersDone, completedState_rxSlots, completedState_head, List.eraseIdx_set_eq]

theorem frameByte_readBytes (m : Memory) (n k : Nat) :
    frameByte (readBytes m n) k = if k < n then readByte m k else 0 := by
  split
  · next hk => exact readBytes_getD m hk
  · next hk => exact List.getD_eq_default _ _ (by simpa using hk)

theorem dropTest_iff (slot : RxSlot) (s : State) :
    dropTest slot s = true ↔
      s.dropEnabled = true ∧ s.dropThreshold.toNat < othersDone s ∧ predOnSlot s.isEssential slot = false := by
  rw [dropTest, Bool.and_eq_true, Bool.and_eq_true, decide_eq_true_iff, Bool.not_eq_true', and_assoc]

/-! ### The ends of a completion -/

/-- The state of R196, field by field. -/
theorem completedState_eq (result : RxResult) (ms : Word) (slot : RxSlot) (s : State) :
    completedState result ms slot s = { s with
      ackArmed := false
      readBits := 0
      nBits := 0
      jitter := 0
      rxSlots := s.rxSlots.set s.head (completedSlot result ms slot s)
      rxStats := { s.rxStats with rxCount := s.rxStats.rxCount + 1 } } := by
  simp only [completedState, State.putRx, State.resetDecoder, cancelTimer, State.noteCompleted]

section
variable {result : RxResult} {ms : Word} {slot : RxSlot} {s : State}

theorem complete_of_drop (drop : dropTest (completedSlot result ms slot s) (completedState result ms slot s) = true) :
    complete result ms slot s = .next (dropFrame (completedState result ms slot s)) := if_pos drop

theorem complete_of_keep (keep : dropTest (completedSlot result ms slot s) (completedState result ms slot s) ≠ true) :
    complete result ms slot s = advanceHead (completedState result ms slot s) := if_neg keep

end

/-- The high-water mark with a pool's backlog taken in (R198). -/
def highWater (mark : Word) (slots : List RxSlot) : Word :=
  BitVec.ofNat 32 (max mark.toNat (slots.filter fun x => decide (x.state = .done)).length)

theorem noteQueued_eq (s : State) :
    s.noteQueued =
      { s with rxStats := { s.rxStats with maxQueued := highWater s.rxStats.maxQueued s.rxSlots } } := by
  have backlog : s.nQueued = (s.rxSlots.filter fun x => decide (x.state = .done)).length :=
    List.countP_eq_length_filter
  rw [State.noteQueued, highWater, ← backlog]
  split
  · next more => rw [max_eq_right more.le]
  · next more => rw [max_eq_left (Nat.le_of_not_lt more), BitVec.ofNat_toNat, BitVec.setWidth_eq]

section
variable {s : State} {next : RxSlot} (at_next : s.rxSlots[(s.head + 1) % s.q.toNat]? = some next)
include at_next

/-- `head` moves on to a free slot (R198). -/
theorem advanceHead_of_vacant (free : next.state = .vacant) :
    advanceHead s = .next { s with
      head := (s.head + 1) % s.q.toNat
      rxStats := { s.rxStats with maxQueued := highWater s.rxStats.maxQueued s.rxSlots } } := by
  rw [advanceHead_eq at_next, clearHead, if_pos free, noteQueued_eq]
  simp only [moveHead]

/-- `head` moves on to a slot whose frame is lost (R198). -/
theorem advanceHead_of_used (used : next.state ≠ .vacant) :
    advanceHead s = .next { s with
      head := (s.head + 1) % s.q.toNat
      overrun := true
      rxSlots := s.rxSlots.set ((s.head + 1) % s.q.toNat) vacantSlot
      rxStats :=
        { s.rxStats with
          rxOverwritten := s.rxStats.rxOverwritten + 1
          maxQueued := highWater s.rxStats.maxQueued (s.rxSlots.set ((s.head + 1) % s.q.toNat) vacantSlot) } } := by
  rw [advanceHead_eq at_next, clearHead, if_neg used, noteQueued_eq]
  simp only [overwriteHead, State.putRx, State.noteOverrun, moveHead]

end

/-- Settles O37: `drop` is the drop test on the completed slot, and of a frame that is kept the slot after `head` says
whether an unread one is lost. -/
theorem completionQueuesDropsOrOverwrites : Obligations.CompletionQueuesDropsOrOverwrites := by
  intro s slot next result ms h done vacant others slots base highest iden essential drop _ ne at_next
  have essential_eq : predOnSlot s.isEssential done = essential := by
    have iden_eq : frameIdenOf (readBytes slot.bytes slot.size) = iden := by
      rw [frameIdenOf, frameByte_readBytes, frameByte_readBytes]
    cases form : s.isEssential with
    | never => simp only [essential, form, predOnSlot]
    | always => simp only [essential, form, predOnSlot]
    | idenEq v => simp only [essential, form, predOnSlot, done, iden_eq]
    | caller n => simp only [essential, form, predOnSlot]
  have drop_iff : dropTest (completedSlot result ms slot s) (completedState result ms slot s) = true ↔ drop := by
    rw [dropTest_iff, othersDone_completedState, othersDone_eq, completedState_dropEnabled,
      completedState_dropThreshold, completedState_isEssential]
    exact and_congr_right fun _ => and_congr_right fun _ => by rw [← essential_eq]; rfl
  have base_eq : completedState result ms slot s = base := completedState_eq result ms slot s
  have next_eq : base.rxSlots[(base.head + 1) % base.q.toNat]? = some next :=
    (List.getElem?_set_ne ne.symm).trans at_next
  refine ⟨fun dropped => ?_, fun kept free => ?_, fun kept used => ?_⟩
  · have slots_eq : (dropFrame base).rxSlots = s.rxSlots.set s.head vacant := List.set_set ..
    rw [complete_of_drop (drop_iff.2 dropped), base_eq, ← slots_eq]
    rfl
  · rw [complete_of_keep (mt drop_iff.1 kept), base_eq, advanceHead_of_vacant next_eq free]
    rfl
  · rw [complete_of_keep (mt drop_iff.1 kept), base_eq, advanceHead_of_used next_eq used]
    rfl

end Sys2Proof.Machine
end

section
/-! SUPPORT. The ACK wait (42_rx_decoder.md R193, R194): what an edge and the timer's expiry make of a frame that waits for
its ACK. An edge that is no pulse goes on in LOADING, and what the slot at `head` held before is of no account, since each of
the decoder's steps writes that slot. -/

namespace Sys2Proof.Machine

open Sys2Proof.Config

/-! ### The decoder's steps overwrite the slot at `head` -/

section
variable (a b : RxSlot) (s : State)

theorem putRx_putRx (i : Nat) : (s.putRx i b).putRx i a = s.putRx i a := by
  simp only [State.putRx, List.set_set]

theorem endSearch_putRx_head : endSearch a (s.putRx s.head b) = endSearch a s :=
  putRx_putRx _ b s.resetDecoder s.head

theorem enterWaitAck_putRx_head (now : Word) : enterWaitAck now a (s.putRx s.head b) = enterWaitAck now a s := by
  simp only [enterWaitAck, State.putRx, List.set_set]

theorem sofGroup_putRx_head (g : Group) : sofGroup g a (s.putRx s.head b) = sofGroup g a s := by
  by_cases accepted : g ∈ s.params.sofAccept
  · rw [sofGroup_of_accepted accepted, sofGroup_of_accepted (s := s.putRx s.head b) accepted]
    exact putRx_putRx _ b s s.head
  · rw [sofGroup_of_rejected accepted, sofGroup_of_rejected (s := s.putRx s.head b) accepted, endSearch_putRx_head]

theorem completedState_putRx_head (result : RxResult) (ms : Word) :
    completedState result ms a (s.putRx s.head b) = completedState result ms a s := by
  simp only [completedState_eq, completedSlot, State.putRx, List.set_set]

theorem complete_putRx_head (result : RxResult) (ms : Word) :
    complete result ms a (s.putRx s.head b) = complete result ms a s := by
  have slot_eq : completedSlot result ms a (s.putRx s.head b) = completedSlot result ms a s := rfl
  simp only [complete, slot_eq, completedState_putRx_head]

theorem loadGroup_putRx_head (g : Group) (ts : Stamp) : loadGroup g ts a (s.putRx s.head b) = loadGroup g ts a s := by
  rcases Nat.lt_or_ge a.size maxFrame with room | full
  · by_cases ends : g.extractLsb' 0 2 ∈ s.params.eodAccept ∧ minEodSize ≤ a.size + 1
    · obtain ⟨eod, long⟩ := ends
      rw [loadGroup_of_eod room eod long, loadGroup_of_eod (s := s.putRx s.head b) room eod long,
        enterWaitAck_putRx_head]
    · have data : g.extractLsb' 0 2 ∉ s.params.eodAccept ∨ a.size + 1 < minEodSize := by
        rwa [not_and_or, Nat.not_le] at ends
      rw [loadGroup_of_data room data, loadGroup_of_data (s := s.putRx s.head b) room data]
      exact congrArg _ (putRx_putRx _ b s s.head)
  · rw [loadGroup_of_full full, loadGroup_of_full full, complete_putRx_head]

theorem takeGroup_putRx_head (ts : Stamp) : takeGroup ts a (s.putRx s.head b) = takeGroup ts a s := by
  have sof := sofGroup_putRx_head a b (dropGroup s) (oldestGroup s)
  have load := loadGroup_putRx_head a b (dropGroup s) (oldestGroup s) ts
  exact if_congr Iff.rfl (congrArg Host.Outcome.next sof) load

theorem acceptRun_putRx_head (v : Bit) (r : BitCount) (ts : Stamp) :
    acceptRun v r ts a (s.putRx s.head b) = acceptRun v r ts a s := by
  have taken (f : FixedRun) := takeGroup_putRx_head f.slot b (appendRun v f.n f.jitter s) ts
  have appended (f : FixedRun) := putRx_putRx f.slot b (appendRun v f.n f.jitter s) s.head
  exact if_congr Iff.rfl (taken _) (congrArg Host.Outcome.next (appended _))

theorem runStep_putRx_head (level : Bit) (c : Word) (ts : Stamp) :
    runStep level c ts a (s.putRx s.head b) = runStep level c ts a s := by
  refine if_congr Iff.rfl (if_congr Iff.rfl ?_ ?_) ?_
  · rw [endSearch_putRx_head]
  · rw [complete_putRx_head]
  · exact acceptRun_putRx_head a b s ..

end

/-! ### The edge -/

theorem isBelow_eq_false_iff (v : Int) (c : Cycles) : isBelow v c = false ↔ c.num ≤ v * c.den := by
  rw [← Bool.not_eq_true, isBelow_iff, not_lt]

theorem isAckPulse_iff (p : Params) (level : Bit) (c : Word) :
    isAckPulse p level c = true ↔
      level = false ∧ p.ackMin.num ≤ c.toNat * p.ackMin.den ∧ c.toNat * p.ackMax.den < p.ackMax.num := by
  rw [isAckPulse, Bool.and_eq_true, Bool.and_eq_true, Bool.not_eq_true', Bool.not_eq_true', isBelow_eq_false_iff,
    isBelow_iff, and_assoc]

section
variable {level : Bit} {c : Word} {ts : Stamp} {slot : RxSlot} {s : State}

theorem ackEdge_of_pulse (pulse : isAckPulse s.params level c = true) :
    ackEdge level c ts slot s = complete .ok ts.ms { slot with ack := .ack } (cancelTimer s) := if_pos pulse

theorem ackEdge_of_no_pulse (no_pulse : isAckPulse s.params level c ≠ true) :
    ackEdge level c ts slot s = runStep level c ts { slot with state := .loading } (cancelTimer s) := if_neg no_pulse

end

/-- Settles O35: an edge that is no pulse runs as one of LOADING with the timer off, whatever slot is at `head`. -/
theorem ackPulseOrMoreData : Obligations.AckPulseOrMoreData := by
  intro s slot level ts on host bus at_head waiting c pulse
  have pulse_iff := isAckPulse_iff s.params level (ts.now - s.prevEdgeTime)
  constructor
  · intro hp
    rw [exec_evEdge_of_enabled on host bus, edgeHandler_of_waiting at_head waiting,
      ackEdge_of_pulse (s := edgePrologue level ts.now s) (pulse_iff.2 hp)]
    obtain ⟨rfl, -⟩ := hp
    rfl
  · intro no_pulse
    obtain ⟨head_lt, -⟩ := List.getElem?_eq_some_iff.1 at_head
    have edge := exec_evEdge_of_enabled (level := level) (ts := ts) (s := { s with
      ackArmed := false
      rxSlots := s.rxSlots.set s.head { slot with state := .loading } }) on host bus
    rw [exec_evEdge_of_enabled on host bus, edgeHandler_of_waiting at_head waiting,
      ackEdge_of_no_pulse (s := edgePrologue level ts.now s) (mt pulse_iff.1 no_pulse), edge,
      edgeHandler_of_running (List.getElem?_set_self head_lt) (.inr rfl)]
    exact (runStep_putRx_head _ _ (cancelTimer (edgePrologue level ts.now s)) ..).symm

/-! ### The timeout -/

section
variable {ts : Stamp} {slot : RxSlot} {s : State}

/-- The timer's expiry is delivered whatever the RX enables say (R194). -/
theorem exec_evAckTimeout_of_due (armed : s.ackArmed = true) (due : (ts.now - s.ackDeadline).toNat < 2 ^ 31) :
    exec (.evAckTimeout ts) s = ackTimeoutHandler ts s := if_pos ((ackDue_iff s ts.now).2 ⟨armed, due⟩)

theorem ackTimeoutHandler_of_waiting (at_head : s.rxSlots[s.head]? = some slot) (waiting : slot.state = .waitingAck) :
    ackTimeoutHandler ts s = complete .ok ts.ms { slot with ack := .noAck } (cancelTimer s) := by
  simp [ackTimeoutHandler, at_head, waiting]

theorem ackTimeoutHandler_of_not_waiting (at_head : s.rxSlots[s.head]? = some slot)
    (other : slot.state ≠ .waitingAck) : ackTimeoutHandler ts s = .next (cancelTimer s) := by
  simp [ackTimeoutHandler, at_head, other]

/-- Completion ends in a next state if there is a slot for `head` to move on to (R196 to R198). -/
theorem complete_ends (result : RxResult) (ms : Word) (slot : RxSlot)
    (next_lt : (s.head + 1) % s.q.toNat < s.rxSlots.length) : ∃ s', complete result ms slot s = .next s' := by
  by_cases drop : dropTest (completedSlot result ms slot s) (completedState result ms slot s) = true
  · exact ⟨_, complete_of_drop drop⟩
  · have next_lt' : ((completedState result ms slot s).head + 1) % (completedState result ms slot s).q.toNat <
        (completedState result ms slot s).rxSlots.length := by
      simpa using next_lt
    exact ⟨_, (complete_of_keep drop).trans (advanceHead_eq (List.getElem?_eq_getElem next_lt'))⟩

end

/-- Settles O36: the waiting frame completes, and completion ends, as there is a slot for `head` to move on to. -/
theorem ackTimeoutCompletesTheFrame : Obligations.AckTimeoutCompletesTheFrame := by
  intro s slot ts armed due at_head
  rw [exec_evAckTimeout_of_due armed due]
  constructor
  · intro waiting next_lt
    obtain ⟨s', ends⟩ := complete_ends (s := cancelTimer s) .ok ts.ms { slot with ack := .noAck } next_lt
    exact ⟨s', (ackTimeoutHandler_of_waiting at_head waiting).trans ends, ends⟩
  · intro other
    exact ackTimeoutHandler_of_not_waiting at_head other

end Sys2Proof.Machine
end

section
/-! SUPPORT. The CRC register is linear (43_crc_codec.md R230, R233): a changed bit of a frame changes the check register by
an amount that depends only on how many bits follow it. -/

namespace Sys2Proof.Machine

open Sys2Proof.Config

theorem xor_eq_left_iff {w : Nat} {x y : BitVec w} : x ^^^ y = x ↔ y = 0#w := by
  rw [← BitVec.xor_right_inj (x := y) x, BitVec.xor_zero]

/-! ### The register under a 0 bit -/

/-- A 0 bit into the register: multiplication by `x` modulo the generator (R230). -/
def crcShift (x : BitVec 15) : BitVec 15 := crcStep x false

theorem crcShift_xor (x y : BitVec 15) : crcShift (x ^^^ y) = crcShift x ^^^ crcShift y := crcStep_xor x y false false

/-- The generator's term 1 makes the shift invertible: bit 0 of the result is the bit that was shifted out. -/
theorem eq_zero_of_crcShift_eq_zero {x : BitVec 15} (h : crcShift x = 0#15) : x = 0#15 := by
  have top : x.getLsbD 14 = false := by
    cases out : x.getLsbD 14 with
    | false => rfl
    | true =>
      rw [crcShift, crcStep, out] at h
      simpa using congrArg (BitVec.getLsbD · 0) h
  have shifted : x <<< 1 = 0#15 := by rw [← h, crcShift, ← top, crcStep_top]
  refine BitVec.eq_of_getLsbD_eq fun k hk => ?_
  rcases Nat.lt_or_eq_of_le (Nat.le_of_lt_succ hk) with low | rfl
  · simpa [hk, low, show k + 1 < 15 by omega] using congrArg (BitVec.getLsbD · (k + 1)) shifted
  · exact top

theorem crcShift_injective : Function.Injective crcShift := by
  intro x y h
  refine BitVec.xor_eq_zero_iff.mp (eq_zero_of_crcShift_eq_zero ?_)
  rw [crcShift_xor, h, BitVec.xor_self]

theorem crcShift_iterate_xor (n : Nat) (x y : BitVec 15) :
    crcShift^[n] (x ^^^ y) = crcShift^[n] x ^^^ crcShift^[n] y := by
  induction n generalizing x y with
  | zero => rfl
  | succ n ih => rw [Function.iterate_succ_apply, crcShift_xor, ih]; rfl

theorem crcShift_iterate_ne_zero {x : BitVec 15} (hx : x ≠ 0#15) (n : Nat) : crcShift^[n] x ≠ 0#15 := by
  have zero : crcShift^[n] 0#15 = 0#15 := Function.iterate_fixed (by decide) n
  exact fun h => hx (crcShift_injective.iterate n (h.trans zero.symm))

/-! ### Bytes -/

theorem crcByte_xor (x y : BitVec 15) (a b : Byte) : crcByte (x ^^^ y) (a ^^^ b) = crcByte x a ^^^ crcByte y b := by
  simp only [crcByte, List.foldl_cons, List.foldl_nil, BitVec.getLsbD_xor, crcStep_xor]

theorem crcByte_zero (x : BitVec 15) : crcByte x 0#8 = crcShift^[8] x := rfl

theorem crcByte_xor_left (x y : BitVec 15) (b : Byte) : crcByte (x ^^^ y) b = crcByte x b ^^^ crcShift^[8] y := by
  rw [← crcByte_zero, ← crcByte_xor, BitVec.xor_zero]

theorem crcByte_injective (b : Byte) : Function.Injective (crcByte · b) := by
  intro x y h
  have diff : crcShift^[8] (x ^^^ y) = 0#15 := by
    rw [← crcByte_zero, ← BitVec.xor_self (x := b), crcByte_xor]
    exact BitVec.xor_eq_zero_iff.mpr h
  exact BitVec.xor_eq_zero_iff.mp (not_imp_not.mp (crcShift_iterate_ne_zero · 8) diff)

/-- A changed bit `k` of a byte, followed by the `k` bits below it. -/
theorem crcByte_flip (x : BitVec 15) (b : Byte) {k : Nat} (hk : k < 8) :
    crcByte x (b ^^^ BitVec.ofNat 8 (2 ^ k)) = crcByte x b ^^^ crcShift^[k] crcPoly := by
  have single : ∀ k < 8, crcByte 0#15 (BitVec.ofNat 8 (2 ^ k)) = crcShift^[k] crcPoly := by decide
  rw [← single k hk, ← crcByte_xor, BitVec.xor_zero]

/-- A change of the register before a list of bytes is shifted by their bits. -/
theorem foldl_crcByte_xor (bs : List Byte) (x y : BitVec 15) :
    bs.foldl crcByte (x ^^^ y) = bs.foldl crcByte x ^^^ crcShift^[8 * bs.length] y := by
  induction bs generalizing x y with
  | nil => rfl
  | cons b bs ih =>
    rw [List.foldl_cons, crcByte_xor_left, ih, ← Function.iterate_add_apply, List.foldl_cons, List.length_cons,
      Nat.mul_succ]

/-! ### Flipped bits -/

theorem flipBit_cons_of_lt (b : Byte) (bs : List Byte) {i : Nat} (hi : i < 8) :
    flipBit (b :: bs) i = (b ^^^ BitVec.ofNat 8 (2 ^ (7 - i))) :: bs := by
  rw [flipBit, Nat.div_eq_of_lt hi, Nat.mod_eq_of_lt hi, List.modify_zero_cons]

theorem flipBit_cons_add (b : Byte) (bs : List Byte) (i : Nat) : flipBit (b :: bs) (i + 8) = b :: flipBit bs i := by
  rw [flipBit, Nat.add_div_right i (by decide), Nat.add_mod_right, List.modify_succ_cons, flipBit]

@[simp] theorem flipBit_length (bs : List Byte) (i : Nat) : (flipBit bs i).length = bs.length := List.length_modify ..

/-- A flipped bit of a list of bytes, by the number of bits after it. -/
theorem foldl_crcByte_flipBit (bs : List Byte) (x : BitVec 15) {i : Nat} (hi : i < 8 * bs.length) :
    (flipBit bs i).foldl crcByte x = bs.foldl crcByte x ^^^ crcShift^[8 * bs.length - 1 - i] crcPoly := by
  induction bs generalizing x i with
  | nil => exact absurd hi (by simp)
  | cons b bs ih =>
    rw [List.length_cons] at hi ⊢
    rcases Nat.lt_or_ge i 8 with first | later
    · rw [flipBit_cons_of_lt b bs first, List.foldl_cons, crcByte_flip x b (by omega), foldl_crcByte_xor,
        ← Function.iterate_add_apply, List.foldl_cons, show 8 * bs.length + (7 - i) = 8 * (bs.length + 1) - 1 - i by omega]
    · obtain ⟨j, rfl⟩ := Nat.exists_eq_add_of_le' later
      rw [flipBit_cons_add, List.foldl_cons, ih (crcByte x b) (by omega), List.foldl_cons,
        show 8 * bs.length - 1 - j = 8 * (bs.length + 1) - 1 - (j + 8) by omega]

/-- The register that CHECK_CRC compares with the residue (R232). -/
def checkRegister (bs : List Byte) : BitVec 15 := crcBytes (bs.drop 1)

theorem crcValid_iff (bs : List Byte) : crcValid bs = true ↔ checkRegister bs = crcResidue := decide_eq_true_iff

/-- What flipping frame bit `i` of `n` bytes adds to the check register. -/
def flipEffect (n i : Nat) : BitVec 15 := crcShift^[8 * n - 1 - i] crcPoly

theorem flipEffect_ne_zero (n i : Nat) : flipEffect n i ≠ 0#15 := crcShift_iterate_ne_zero (by decide) _

theorem checkRegister_flipBit {bs : List Byte} {i : Nat} (after_sof : 8 ≤ i) (hi : i < 8 * bs.length) :
    checkRegister (flipBit bs i) = checkRegister bs ^^^ flipEffect bs.length i := by
  obtain ⟨j, rfl⟩ := Nat.exists_eq_add_of_le' after_sof
  cases bs with
  | nil => exact absurd hi (by simp)
  | cons b bs =>
    rw [List.length_cons] at hi
    rw [flipBit_cons_add, flipEffect, List.length_cons, show 8 * (bs.length + 1) - 1 - (j + 8) = 8 * bs.length - 1 - j by omega]
    exact foldl_crcByte_flipBit bs crcInit (by omega)

/-- Settles O23: the flip adds a nonzero amount to the check register. -/
theorem singleFlipsAreDetected : Obligations.SingleFlipsAreDetected := by
  intro bs i valid after_sof hi
  rw [crcValid_iff] at valid
  rw [← Bool.not_eq_true, crcValid_iff, checkRegister_flipBit after_sof hi, valid, xor_eq_left_iff]
  exact flipEffect_ne_zero bs.length i

/-! ### The CRC field -/

/-- A field whose bit 0 is clear is the CRC field of some register (R231). -/
theorem exists_crcFieldOf {v : BitVec 16} (clear : v.getLsbD 0 = false) : ∃ c, v = crcFieldOf c := by
  refine ⟨~~~((v >>> 1).setWidth 15), BitVec.eq_of_getLsbD_eq fun k hk => ?_⟩
  cases k with
  | zero => rw [clear, crcFieldOf_getLsbD_zero]
  | succ k =>
    rw [crcFieldOf_getLsbD_succ _ (by omega)]
    simp [show k < 15 by omega, Nat.add_comm]

/-- The two bytes of a field, high byte first, into the register. -/
def crcWord (x : BitVec 15) (v : BitVec 16) : BitVec 15 := crcByte (crcByte x (v.extractLsb' 8 8)) (v.extractLsb' 0 8)

theorem crcWord_xor (x y : BitVec 15) (v w : BitVec 16) : crcWord (x ^^^ y) (v ^^^ w) = crcWord x v ^^^ crcWord y w := by
  simp only [crcWord, BitVec.extractLsb'_xor, crcByte_xor]

theorem crcWord_injective (v : BitVec 16) : Function.Injective (crcWord · v) :=
  (crcByte_injective _).comp (crcByte_injective _)

/-- Of the fields whose bit 0 is clear, the register's own is the only one to reach the residue (R233). -/
theorem crcWord_eq_residue_iff_of_clear (x : BitVec 15) {v : BitVec 16} (clear : v.getLsbD 0 = false) :
    crcWord x v = crcResidue ↔ v = crcFieldOf x := by
  constructor
  · intro reached
    obtain ⟨c, rfl⟩ := exists_crcFieldOf clear
    rw [crcWord_injective _ (reached.trans (crc_of_field c).symm)]
  · rintro rfl
    exact crc_of_field x

/-- The generator with its `x^15` term, as an error pattern of the field, leaves the register unchanged (R233). -/
theorem crcWord_xor_generator (x : BitVec 15) (v : BitVec 16) : crcWord x (v ^^^ 0x8F9D) = crcWord x v := by
  have unseen : crcWord 0#15 0x8F9D = 0#15 := by decide
  rw [← BitVec.xor_zero (x := x), crcWord_xor, unseen, BitVec.xor_zero, BitVec.xor_zero]

theorem crcWord_eq_residue_iff (x : BitVec 15) (v : BitVec 16) :
    crcWord x v = crcResidue ↔ v = crcFieldOf x ∨ v = crcFieldOf x ^^^ 0x8F9D := by
  have generator_bit : (0x8F9D : BitVec 16).getLsbD 0 = true := by decide
  have xor_bit (w : BitVec 16) : (w ^^^ 0x8F9D).getLsbD 0 = !w.getLsbD 0 := by
    rw [BitVec.getLsbD_xor, generator_bit, Bool.xor_true]
  have field_bit := crcFieldOf_getLsbD_zero x
  cases bit : v.getLsbD 0 with
  | false =>
    have other : v ≠ crcFieldOf x ^^^ 0x8F9D := by
      rintro rfl
      rw [xor_bit, field_bit] at bit
      cases bit
    rw [crcWord_eq_residue_iff_of_clear x bit, or_iff_left other]
  | true =>
    have other : v ≠ crcFieldOf x := by
      rintro rfl
      cases field_bit.symm.trans bit
    rw [← crcWord_xor_generator, crcWord_eq_residue_iff_of_clear x (by rw [xor_bit, bit]; rfl), or_iff_right other,
      ← BitVec.xor_left_inj 0x8F9D, BitVec.xor_assoc, BitVec.xor_self, BitVec.xor_zero]

/-- Settles O22: the frame before the field leaves a register, and two fields take it to the residue. -/
theorem exactlyTwoFieldsPassTheCheck : Obligations.ExactlyTwoFieldsPassTheCheck := by
  intro bs hi lo v nonempty
  have field : crcField (bs ++ [hi, lo]) = crcFieldOf (crcBytes (bs.drop 1)) := by
    simp [crcField, crcFieldOf]
  have check : checkRegister (bs ++ [v.extractLsb' 8 8, v.extractLsb' 0 8]) = crcWord (crcBytes (bs.drop 1)) v := by
    rw [checkRegister, List.drop_append_of_le_length nonempty, crcBytes, List.foldl_append]
    rfl
  rw [crcValid_iff, check, field]
  refine ⟨crcWord_eq_residue_iff _ v, crcFieldOf_getLsbD_zero _, ?_⟩
  rw [BitVec.getLsbD_xor, crcFieldOf_getLsbD_zero]
  rfl

end Sys2Proof.Machine
end

section
/-! SUPPORT. The configurations of the repair search (43_crc_codec.md R234 to R239): what flipping bits does to a frame, bit by
bit, which configurations there are, and in which order they stand. -/

namespace Sys2Proof.Machine

open Sys2Proof.Config

/-! ### Frame bits -/

theorem flipBit_getLsbD {bs : List Byte} {i : Nat} (hi : i < 8 * bs.length) (k : Nat) {j : Nat} (hj : j < 8) :
    ((flipBit bs i).getD k 0).getLsbD j = ((bs.getD k 0).getLsbD j ^^ decide (k = i / 8 ∧ j = 7 - i % 8)) := by
  rw [flipBit, List.getD_eq_getElem?_getD, List.getElem?_modify, List.getD_eq_getElem?_getD]
  by_cases at_byte : i / 8 = k
  · subst at_byte
    have mask : (BitVec.ofNat 8 (2 ^ (7 - i % 8))).getLsbD j = decide (j = 7 - i % 8) := by
      rw [BitVec.getLsbD_ofNat, Nat.testBit_two_pow, decide_eq_true hj, Bool.true_and]
      exact decide_eq_decide.mpr eq_comm
    rw [List.getElem?_eq_getElem (by omega)]
    simp only [if_pos, Option.map_eq_map, Option.map_some, Option.getD_some, BitVec.getLsbD_xor, mask, true_and]
  · simp [at_byte, Ne.symm at_byte]

/-- A flip complements one frame bit and no other (R234). -/
theorem frameBit_flipBit {bs : List Byte} {i : Nat} (hi : i < 8 * bs.length) (j : Nat) :
    frameBit (flipBit bs i) j = (frameBit bs j ^^ decide (j = i)) := by
  have same_bit : (j / 8 = i / 8 ∧ 7 - j % 8 = 7 - i % 8) ↔ j = i := by omega
  rw [frameBit, frameByte, flipBit_getLsbD hi _ (by omega), decide_eq_decide.mpr same_bit]
  rfl

/-- Frames of one length with the same bits are equal. -/
theorem eq_of_frameBit_eq {bs cs : List Byte} (length : bs.length = cs.length) (bits : ∀ i, frameBit bs i = frameBit cs i) :
    bs = cs := by
  refine List.ext_getElem length fun k hb hc => BitVec.eq_of_getLsbD_eq fun j hj => ?_
  have bit := bits (8 * k + (7 - j))
  rw [frameBit, frameBit, show (8 * k + (7 - j)) / 8 = k by omega, show 7 - (8 * k + (7 - j)) % 8 = j by omega] at bit
  simpa [frameByte, hb, hc] using bit

/-- Distinct bits after SOF of a frame of `n` bytes. -/
structure SearchedBits (n : Nat) (l : List Nat) : Prop where
  nodup : l.Nodup
  searched : ∀ i ∈ l, 8 ≤ i ∧ i < 8 * n

theorem SearchedBits.single {n i : Nat} (after_sof : 8 ≤ i) (hi : i < 8 * n) : SearchedBits n [i] where
  nodup := List.nodup_singleton i
  searched := by simp [after_sof, hi]

theorem SearchedBits.pair {n i j : Nat} (distinct : i ≠ j) (hi : 8 ≤ i ∧ i < 8 * n) (hj : 8 ≤ j ∧ j < 8 * n) :
    SearchedBits n [i, j] where
  nodup := by simp [distinct]
  searched := by simp [hi, hj]

theorem SearchedBits.tail {n i : Nat} {l : List Nat} (h : SearchedBits n (i :: l)) : SearchedBits n l where
  nodup := h.nodup.of_cons
  searched j hj := h.searched j (List.mem_cons_of_mem i hj)

@[simp] theorem flipBits_length (bs : List Byte) (l : List Nat) : (l.foldl flipBit bs).length = bs.length := by
  induction l generalizing bs with
  | nil => rfl
  | cons i l ih => rw [List.foldl_cons, ih, flipBit_length]

/-- Flipping distinct bits complements exactly those. -/
theorem frameBit_flipBits {bs : List Byte} {l : List Nat} (h : SearchedBits bs.length l) (j : Nat) :
    frameBit (l.foldl flipBit bs) j = (frameBit bs j ^^ decide (j ∈ l)) := by
  induction l generalizing bs with
  | nil => simp
  | cons i l ih =>
    have tail : SearchedBits (flipBit bs i).length l := (flipBit_length bs i).symm ▸ h.tail
    have fresh : i ∉ l := h.nodup.notMem
    rw [List.foldl_cons, ih tail, frameBit_flipBit (h.searched i List.mem_cons_self).2, Bool.xor_assoc]
    congr 1
    by_cases here : j = i
    · simp [here, fresh]
    · simp [here]

/-- Flipping the same bits again undoes it. -/
theorem flipBits_flipBits {bs : List Byte} {l : List Nat} (h : SearchedBits bs.length l) :
    l.foldl flipBit (l.foldl flipBit bs) = bs := by
  refine eq_of_frameBit_eq (by simp) fun i => ?_
  have again : SearchedBits (l.foldl flipBit bs).length l := (flipBits_length bs l).symm ▸ h
  rw [frameBit_flipBits again, frameBit_flipBits h, Bool.xor_assoc, Bool.xor_self, Bool.xor_false]

/-! ### The configurations -/

theorem mem_searchBits {n i : Nat} : i ∈ searchBits n ↔ 8 ≤ i ∧ i < 8 * n := by
  rw [searchBits, List.mem_range'_1]
  omega

theorem mem_uncertainTrials {n : Nat} {u : Option Nat} {t : Trial} :
    t ∈ uncertainTrials n u ↔ ∃ i, u = some i ∧ 8 ≤ i ∧ i < 8 * n ∧ t = (.uncertain, [i]) := by
  cases u with
  | none => simp [uncertainTrials]
  | some i =>
    rw [uncertainTrials]
    split
    · next searched => simp [searched]
    · next out => simp; omega

/-- What the sweep tries at bit `i`: the bit, then with the bit before it (R238). -/
def trialsAt (i : Nat) : List Trial :=
  if 8 ≤ i - 1 then [(.one, [i]), (.twoConsecutive, [i, i - 1])] else [(.one, [i])]

theorem singleTrials_eq_flatMap (n : Nat) : singleTrials n = (searchBits n).flatMap trialsAt := rfl

theorem mem_trialsAt {i : Nat} {t : Trial} :
    t ∈ trialsAt i ↔ t = (.one, [i]) ∨ 9 ≤ i ∧ t = (.twoConsecutive, [i, i - 1]) := by
  rw [trialsAt]
  split
  · next before => simp [show 9 ≤ i by omega]
  · next first => simp [show ¬9 ≤ i by omega]

theorem mem_singleTrials {n : Nat} {t : Trial} : t ∈ singleTrials n ↔
    (∃ i, 8 ≤ i ∧ i < 8 * n ∧ t = (.one, [i])) ∨ ∃ i, 9 ≤ i ∧ i < 8 * n ∧ t = (.twoConsecutive, [i, i - 1]) := by
  simp only [singleTrials_eq_flatMap, List.mem_flatMap, mem_searchBits, mem_trialsAt]
  constructor
  · rintro ⟨i, ⟨after_sof, hi⟩, rfl | ⟨before, rfl⟩⟩
    · exact .inl ⟨i, after_sof, hi, rfl⟩
    · exact .inr ⟨i, before, hi, rfl⟩
  · rintro (⟨i, after_sof, hi, rfl⟩ | ⟨i, before, hi, rfl⟩)
    · exact ⟨i, ⟨after_sof, hi⟩, .inl rfl⟩
    · exact ⟨i, ⟨by omega, hi⟩, .inr ⟨before, rfl⟩⟩

/-- The pairs of an ascending list that are no neighbours. -/
theorem mem_separatePairs {l : List Nat} (ascending : l.Pairwise (· < ·)) {p : List Nat} :
    p ∈ separatePairs l ↔ ∃ i j, i ∈ l ∧ j ∈ l ∧ i + 2 ≤ j ∧ p = [i, j] := by
  induction l with
  | nil => simp [separatePairs]
  | cons a l ih =>
    obtain ⟨above, tail⟩ := List.pairwise_cons.mp ascending
    have with_first : p ∈ (l.filterMap fun j => if j = a + 1 then none else some [a, j]) ↔
        ∃ j ∈ l, a + 2 ≤ j ∧ p = [a, j] := by
      rw [List.mem_filterMap]
      refine exists_congr fun j => and_congr_right fun hj => ?_
      have := above j hj
      split
      · simp; omega
      · simp [show a + 2 ≤ j by omega, eq_comm]
    rw [separatePairs, List.mem_append, with_first, ih tail]
    constructor
    · rintro (⟨j, hj, apart, rfl⟩ | ⟨i, j, hi, hj, apart, rfl⟩)
      · exact ⟨a, j, List.mem_cons_self, List.mem_cons_of_mem a hj, apart, rfl⟩
      · exact ⟨i, j, List.mem_cons_of_mem a hi, List.mem_cons_of_mem a hj, apart, rfl⟩
    · rintro ⟨i, j, hi, hj, apart, rfl⟩
      rcases List.mem_cons.mp hi with rfl | hi
      · exact .inl ⟨j, List.mem_of_ne_of_mem (by omega) hj, apart, rfl⟩
      · have := above i hi
        exact .inr ⟨i, j, hi, List.mem_of_ne_of_mem (by omega) hj, apart, rfl⟩

theorem searchBits_ascending (n : Nat) : (searchBits n).Pairwise (· < ·) := List.pairwise_lt_range' 1

theorem boundaryBits_ascending (bs : List Byte) : (boundaryBits bs).Pairwise (· < ·) :=
  (searchBits_ascending bs.length).filter _

theorem mem_pairTrials {bs : List Byte} {t : Trial} : t ∈ pairTrials bs ↔
    ∃ i j, i ∈ boundaryBits bs ∧ j ∈ boundaryBits bs ∧ i + 2 ≤ j ∧ t = (.twoSeparate, [i, j]) := by
  simp only [pairTrials, List.mem_map, mem_separatePairs (boundaryBits_ascending bs)]
  constructor
  · rintro ⟨p, ⟨i, j, hi, hj, apart, rfl⟩, rfl⟩
    exact ⟨i, j, hi, hj, apart, rfl⟩
  · rintro ⟨i, j, hi, hj, apart, rfl⟩
    exact ⟨_, ⟨i, j, hi, hj, apart, rfl⟩, rfl⟩

theorem mem_repairTrials {f : Frame} {t : Trial} : t ∈ repairTrials f ↔
    (∃ u, f.uncertain = some u ∧ 8 ≤ u ∧ u < 8 * f.bytes.length ∧ t = (.uncertain, [u])) ∨
    (∃ i, 8 ≤ i ∧ i < 8 * f.bytes.length ∧ t = (.one, [i])) ∨
    (∃ i, 9 ≤ i ∧ i < 8 * f.bytes.length ∧ t = (.twoConsecutive, [i, i - 1])) ∨
    ∃ i j, i ∈ boundaryBits f.bytes ∧ j ∈ boundaryBits f.bytes ∧ i + 2 ≤ j ∧ t = (.twoSeparate, [i, j]) := by
  rw [repairTrials, List.mem_append, List.mem_append, mem_uncertainTrials, mem_singleTrials, mem_pairTrials, or_assoc]

/-! ### Boundary bits -/

theorem stuffBits_length_eq (bs : List Byte) : (stuffBits bs).length = 10 * bs.length := by
  rcases List.eq_nil_or_concat bs with rfl | ⟨bs, b, rfl⟩
  · rfl
  · rw [List.concat_eq_append, stuffBits_length, List.length_append, List.length_singleton, Nat.mul_succ]

/-- R235. -/
theorem mem_boundaryBits {bs : List Byte} {i : Nat} : i ∈ boundaryBits bs ↔ 8 ≤ i ∧ i < 8 * bs.length ∧
    ((0 < rawPos i ∧ (stuffBits bs).getD (rawPos i - 1) false ≠ (stuffBits bs).getD (rawPos i) false) ∨
     (rawPos i + 1 < 10 * bs.length ∧
      (stuffBits bs).getD (rawPos i + 1) false ≠ (stuffBits bs).getD (rawPos i) false)) := by
  rw [boundaryBits, List.mem_filter, mem_searchBits, isBoundary, stuffBits_length_eq, and_assoc]
  simp only [Bool.or_eq_true, Bool.and_eq_true, decide_eq_true_eq, bne_iff_ne]

theorem searchedBits_of_mem_repairTrials {f : Frame} {t : Trial} (h : t ∈ repairTrials f) :
    SearchedBits f.bytes.length t.2 := by
  rcases mem_repairTrials.mp h with ⟨i, -, after_sof, hi, rfl⟩ | ⟨i, after_sof, hi, rfl⟩ | ⟨i, before, hi, rfl⟩ |
    ⟨i, j, hi, hj, apart, rfl⟩
  · exact .single after_sof hi
  · exact .single after_sof hi
  · exact .pair (by omega) ⟨by omega, hi⟩ ⟨by omega, by omega⟩
  · obtain ⟨i_ge, i_lt, -⟩ := mem_boundaryBits.mp hi
    obtain ⟨j_ge, j_lt, -⟩ := mem_boundaryBits.mp hj
    exact .pair (by omega) ⟨i_ge, i_lt⟩ ⟨j_ge, j_lt⟩

/-! ### The order -/

theorem cons_lt_cons_of_head {a b : Nat} {l l' : List Nat} (h : a < b) : a :: l < b :: l' :=
  List.cons_lt_cons_iff.mpr (.inl h)

theorem cons_lt_cons_of_tail (a : Nat) {l l' : List Nat} (h : l < l') : a :: l < a :: l' :=
  List.cons_lt_cons_iff.mpr (.inr ⟨rfl, h⟩)

/-- The order of the search: by rank. -/
def TriedBefore (a b : Trial) : Prop := trialRank a < trialRank b

theorem uncertainTrials_inOrder (n : Nat) (u : Option Nat) : (uncertainTrials n u).Pairwise TriedBefore := by
  cases u with
  | none => exact .nil
  | some i => rw [uncertainTrials]; split <;> simp

theorem trialsAt_inOrder (i : Nat) : (trialsAt i).Pairwise TriedBefore := by
  have one_first : TriedBefore (.one, [i]) (.twoConsecutive, [i, i - 1]) :=
    cons_lt_cons_of_tail 1 (cons_lt_cons_of_tail i (cons_lt_cons_of_head Nat.zero_lt_one))
  rw [trialsAt]
  split
  · exact List.pairwise_pair.mpr one_first
  · exact List.pairwise_singleton ..

theorem trialRank_of_mem_trialsAt {i : Nat} {t : Trial} (h : t ∈ trialsAt i) : ∃ c, trialRank t = [1, i, c] := by
  rcases mem_trialsAt.mp h with rfl | ⟨-, rfl⟩
  · exact ⟨0, rfl⟩
  · exact ⟨1, rfl⟩

theorem singleTrials_inOrder (n : Nat) : (singleTrials n).Pairwise TriedBefore := by
  refine List.pairwise_flatMap.mpr ⟨fun i _ => trialsAt_inOrder i, (searchBits_ascending n).imp fun lt a ha b hb => ?_⟩
  obtain ⟨c, rank_a⟩ := trialRank_of_mem_trialsAt ha
  obtain ⟨d, rank_b⟩ := trialRank_of_mem_trialsAt hb
  rw [TriedBefore, rank_a, rank_b]
  exact cons_lt_cons_of_tail 1 (cons_lt_cons_of_head lt)

theorem separatePairs_inOrder {l : List Nat} (ascending : l.Pairwise (· < ·)) : (separatePairs l).Pairwise (· < ·) := by
  induction l with
  | nil => exact .nil
  | cons a l ih =>
    obtain ⟨above, tail⟩ := List.pairwise_cons.mp ascending
    refine List.pairwise_append.mpr ⟨List.pairwise_filterMap.mpr (tail.imp fun lt p hp q hq => ?_), ih tail, ?_⟩
    · split at hp <;> split at hq <;> cases hp <;> cases hq
      exact cons_lt_cons_of_tail a (cons_lt_cons_of_head lt)
    · intro p hp q hq
      obtain ⟨i, j, hi, -, -, rfl⟩ := (mem_separatePairs tail).mp hq
      obtain ⟨k, -, made⟩ := List.mem_filterMap.mp hp
      split at made <;> cases made
      exact cons_lt_cons_of_head (above i hi)

theorem pairTrials_inOrder (bs : List Byte) : (pairTrials bs).Pairwise TriedBefore :=
  List.pairwise_map.mpr ((separatePairs_inOrder (boundaryBits_ascending bs)).imp fun lt => cons_lt_cons_of_tail 2 lt)

theorem repairTrials_inOrder (f : Frame) : (repairTrials f).Pairwise TriedBefore := by
  refine List.pairwise_append.mpr ⟨uncertainTrials_inOrder _ _,
    List.pairwise_append.mpr ⟨singleTrials_inOrder _, pairTrials_inOrder _, ?_⟩, ?_⟩
  · intro a ha b hb
    obtain ⟨i, j, -, -, -, rfl⟩ := mem_pairTrials.mp hb
    rcases mem_singleTrials.mp ha with ⟨k, -, -, rfl⟩ | ⟨k, -, -, rfl⟩
    · exact cons_lt_cons_of_head (by decide)
    · exact cons_lt_cons_of_head (by decide)
  · intro a ha b hb
    obtain ⟨i, -, -, -, rfl⟩ := mem_uncertainTrials.mp ha
    rcases List.mem_append.mp hb with hb | hb
    · rcases mem_singleTrials.mp hb with ⟨k, -, -, rfl⟩ | ⟨k, -, -, rfl⟩
      · exact cons_lt_cons_of_head (by decide)
      · exact cons_lt_cons_of_head (by decide)
    · obtain ⟨i, j, -, -, -, rfl⟩ := mem_pairTrials.mp hb
      exact cons_lt_cons_of_head (by decide)

/-- Settles O25: the flip and the trials bit by bit, the three lists of trials by their members, and their order by rank. -/
theorem repairTrialsFollowTheSearchOrder : Obligations.RepairTrialsFollowTheSearchOrder := by
  refine ⟨fun bs i hi => ⟨flipBit_length bs i, fun k _ j hj => flipBit_getLsbD hi k hj⟩, fun f => ?_⟩
  refine ⟨fun t => mem_repairTrials, repairTrials_inOrder f, fun i => mem_boundaryBits, fun t ht => ?_⟩
  exact ⟨flipBits_length f.bytes t.2, fun i _ => frameBit_flipBits (searchedBits_of_mem_repairTrials ht) i⟩

end Sys2Proof.Machine
end

section
/-! SUPPORT. REPAIR's three ends, and that it restores a valid frame after any single flip and any flip of two neighbouring
bits (43_crc_codec.md R236 to R242). -/

namespace Sys2Proof.Machine

open Sys2Proof.Config

/-! ### The three ends -/

theorem repairSearch_eq_none {f : Frame} (none_valid : ∀ t ∈ repairTrials f, crcValid (applyTrial f.bytes t) = false) :
    repairSearch f = none :=
  List.find?_eq_none.mpr fun t ht => by rw [none_valid t ht]; decide

theorem repairSearch_eq_some {f : Frame} {before after : List Trial} {t : Trial} (trials : repairTrials f = before ++ t :: after)
    (none_before : ∀ u ∈ before, crcValid (applyTrial f.bytes u) = false) (valid : crcValid (applyTrial f.bytes t) = true) :
    repairSearch f = some t :=
  List.find?_eq_some_iff_append.mpr ⟨valid, before, after, trials, fun u hu => by rw [none_before u hu]; rfl⟩

section
variable {s : State} {ts : Stamp} {f : Frame} {interest : Option Pred}

theorem exec_repair_of_valid (valid : crcValid f.bytes = true) :
    exec (.repair f interest ts) s = .next (s.answer (.repaired true f)) := if_pos valid

/-- REPAIR finds nothing: it has counted a corrupt frame, or nothing (R240). -/
theorem exec_repair_of_none (corrupt : crcValid f.bytes = false) (search : repairSearch f = none) :
    exec (.repair f interest ts) s =
      .next ((if repairCounted s f interest then s.noteCorrupt else s).answer (.repaired false f)) := by
  show execRepair f interest s = _
  rw [execRepair, if_neg (by simp [corrupt]), search]

/-- REPAIR finds a configuration: it has counted a corrupt and a repaired frame, or nothing (R241). -/
theorem exec_repair_of_some {t : Trial} (corrupt : crcValid f.bytes = false) (search : repairSearch f = some t) :
    exec (.repair f interest ts) s =
      .next ((if repairCounted s f interest then s.noteCorrupt.noteRepaired t.1 else s).answer
        (.repaired true { f with bytes := applyTrial f.bytes t })) := by
  show execRepair f interest s = _
  rw [execRepair, if_neg (by simp [corrupt]), search]
  cases repairCounted s f interest <;> rfl

end

/-- Settles O24: each end is one outcome of the search; where nothing is counted, 0 is added. -/
theorem repairTakesTheFirstValidTrial : Obligations.RepairTakesTheFirstValidTrial := by
  intro s ts f interest iden interesting one
  have predicate : optPredOnFrame interest f = interesting := by
    rcases interest with _ | _ | _ | v | n <;> rfl
  have counted : one = if repairCounted s f interest then 1 else 0 := by
    rw [repairCounted, predicate]
  refine ⟨exec_repair_of_valid, fun corrupt none_valid => ?_, fun before after t corrupt trials none_before valid => ?_⟩
  · rw [exec_repair_of_none corrupt (repairSearch_eq_none none_valid), counted]
    cases repairCounted s f interest with
    | false => simp [State.answer]
    | true => rfl
  · rw [exec_repair_of_some corrupt (repairSearch_eq_some trials none_before valid), counted]
    cases repairCounted s f interest with
    | false => simp [State.answer]
    | true =>
      obtain ⟨m, bits⟩ := t
      cases m <;> simp [State.answer, State.noteCorrupt, State.noteRepaired]

/-! ### Distinct effects -/

/-- The parity of the register's bits. -/
def crcParity (x : BitVec 15) : Bool := (List.range 15).foldl (fun p k => p ^^ x.getLsbD k) false

/-- The generator has the factor `x + 1`, so a 0 bit keeps the register's parity (R230). -/
theorem crcParity_crcShift (x : BitVec 15) : crcParity (crcShift x) = crcParity x := by
  unfold crcParity crcShift crcStep
  cases top : x.getLsbD 14 with
  | false => simp [List.range_succ, show x[14] = false from top]
  | true => simp [List.range_succ, show x[14] = true from top]

theorem crcParity_iterate (n : Nat) (x : BitVec 15) : crcParity (crcShift^[n] x) = crcParity x := by
  induction n with
  | zero => rfl
  | succ n ih => rw [Function.iterate_succ_apply', crcParity_crcShift, ih]

/-- What a flip of two neighbouring bits adds to the register right after the second of them. -/
def pairPattern : BitVec 15 := crcShift crcPoly ^^^ crcPoly

theorem crcPoly_not_recurring : crcPoly ∉ List.iterate crcShift (crcShift crcPoly) 255 := by decide

theorem pairPattern_not_recurring : pairPattern ∉ List.iterate crcShift (crcShift pairPattern) 255 := by decide

/-- A register value that does not come back within 255 bits differs at any two places of a frame. -/
theorem crcShift_iterate_inj {x : BitVec 15} (not_recurring : x ∉ List.iterate crcShift (crcShift x) 255) {a b : Nat}
    (ha : a < 256) (hb : b < 256) (h : crcShift^[a] x = crcShift^[b] x) : a = b := by
  wlog le : a ≤ b generalizing a b
  · exact (this hb ha h.symm (by omega)).symm
  have back : crcShift^[b - a] x = x := Function.iterate_cancel crcShift_injective h.symm
  cases between : b - a with
  | zero => omega
  | succ k =>
    rw [between, Function.iterate_succ_apply] at back
    exact absurd (List.mem_iterate.mpr ⟨k, by omega, back.symm⟩) not_recurring

/-! ### Small flips -/

/-- The flips that REPAIR always undoes: one bit after SOF, or one and the bit before it (R242). -/
inductive SmallFlip (n : Nat) : List Nat → Prop
  | single {i : Nat} (after_sof : 8 ≤ i) (inside : i < 8 * n) : SmallFlip n [i]
  | pair {i : Nat} (after_sof : 9 ≤ i) (inside : i < 8 * n) : SmallFlip n [i, i - 1]

theorem SmallFlip.searchedBits {n : Nat} {l : List Nat} (h : SmallFlip n l) : SearchedBits n l := by
  cases h with
  | single after_sof inside => exact .single after_sof inside
  | pair after_sof inside => exact .pair (by omega) ⟨by omega, inside⟩ ⟨by omega, by omega⟩

/-- What flipping the bits `l` of `n` bytes adds to the check register. -/
def flipsEffect (n : Nat) (l : List Nat) : BitVec 15 := l.foldr (fun i e => flipEffect n i ^^^ e) 0#15

theorem checkRegister_flipBits {bs : List Byte} {l : List Nat} (h : SearchedBits bs.length l) :
    checkRegister (l.foldl flipBit bs) = checkRegister bs ^^^ flipsEffect bs.length l := by
  induction l generalizing bs with
  | nil => exact BitVec.xor_zero.symm
  | cons i l ih =>
    have tail : SearchedBits (flipBit bs i).length l := (flipBit_length bs i).symm ▸ h.tail
    obtain ⟨after_sof, inside⟩ := h.searched i List.mem_cons_self
    rw [List.foldl_cons, ih tail, checkRegister_flipBit after_sof inside, flipBit_length, BitVec.xor_assoc]
    rfl

theorem flipsEffect_single (n i : Nat) : flipsEffect n [i] = crcShift^[8 * n - 1 - i] crcPoly := BitVec.xor_zero

theorem flipsEffect_pair {n i : Nat} (after_sof : 9 ≤ i) (inside : i < 8 * n) :
    flipsEffect n [i, i - 1] = crcShift^[8 * n - 1 - i] pairPattern := by
  show flipEffect n i ^^^ flipsEffect n [i - 1] = _
  rw [flipsEffect_single, show 8 * n - 1 - (i - 1) = 8 * n - 1 - i + 1 by omega, Function.iterate_succ_apply, pairPattern,
    crcShift_iterate_xor, BitVec.xor_comm]
  rfl

theorem SmallFlip.effect_ne_zero {n : Nat} {l : List Nat} (h : SmallFlip n l) : flipsEffect n l ≠ 0#15 := by
  cases h with
  | single => rw [flipsEffect_single]; exact crcShift_iterate_ne_zero (by decide) _
  | pair after_sof inside => rw [flipsEffect_pair after_sof inside]; exact crcShift_iterate_ne_zero (by decide) _

/-- A single bit changes the register by an odd number of bits, a pair by an even one. -/
theorem effect_single_ne_pair (a b : Nat) : crcShift^[a] crcPoly ≠ crcShift^[b] pairPattern := by
  intro h
  have parity := congrArg crcParity h
  rw [crcParity_iterate, crcParity_iterate] at parity
  exact absurd parity (by decide)

/-- In a frame of at most 33 bytes the effects are distinct (R242). -/
theorem SmallFlip.eq_of_effect_eq {n : Nat} {l l' : List Nat} (hn : n ≤ 33) (h : SmallFlip n l) (h' : SmallFlip n l')
    (same : flipsEffect n l = flipsEffect n l') : l = l' := by
  cases h with
  | @single i after_sof inside =>
    rw [flipsEffect_single] at same
    cases h' with
    | @single j after_sof' inside' =>
      rw [flipsEffect_single] at same
      have place := crcShift_iterate_inj crcPoly_not_recurring (by omega) (by omega) same
      rw [show i = j by omega]
    | pair after_sof' inside' =>
      rw [flipsEffect_pair after_sof' inside'] at same
      exact absurd same (effect_single_ne_pair _ _)
  | @pair i after_sof inside =>
    rw [flipsEffect_pair after_sof inside] at same
    cases h' with
    | single =>
      rw [flipsEffect_single] at same
      exact absurd same.symm (effect_single_ne_pair _ _)
    | @pair j after_sof' inside' =>
      rw [flipsEffect_pair after_sof' inside'] at same
      have place := crcShift_iterate_inj pairPattern_not_recurring (by omega) (by omega) same
      rw [show i = j by omega]

/-! ### The repair of a small flip -/

section
variable {bs : List Byte} {l : List Nat}

theorem SmallFlip.corrupts (h : SmallFlip bs.length l) (valid : crcValid bs = true) :
    crcValid (l.foldl flipBit bs) = false := by
  rw [crcValid_iff] at valid
  rw [← Bool.not_eq_true, crcValid_iff, checkRegister_flipBits h.searchedBits, valid, xor_eq_left_iff]
  exact h.effect_ne_zero

/-- Of the small flips only the same one makes the frame valid again. -/
theorem SmallFlip.eq_of_crcValid (short : bs.length ≤ 33) (valid : crcValid bs = true) (h : SmallFlip bs.length l)
    {l' : List Nat} (h' : SmallFlip bs.length l') (again : crcValid (l'.foldl flipBit (l.foldl flipBit bs)) = true) :
    l = l' := by
  have searched' : SearchedBits (l.foldl flipBit bs).length l' := (flipBits_length bs l).symm ▸ h'.searchedBits
  rw [crcValid_iff] at valid again
  rw [checkRegister_flipBits searched', checkRegister_flipBits h.searchedBits, flipBits_length, valid, BitVec.xor_assoc,
    xor_eq_left_iff] at again
  exact eq_of_effect_eq short h h' (BitVec.xor_eq_zero_iff.mp again)

end

/-- The configurations of steps 1 and 2 are small flips. -/
theorem smallFlip_of_mem {n : Nat} {u : Option Nat} {t : Trial} (h : t ∈ uncertainTrials n u ++ singleTrials n) :
    SmallFlip n t.2 := by
  rcases List.mem_append.mp h with h | h
  · obtain ⟨i, -, after_sof, inside, rfl⟩ := mem_uncertainTrials.mp h
    exact .single after_sof inside
  · rcases mem_singleTrials.mp h with ⟨i, after_sof, inside, rfl⟩ | ⟨i, after_sof, inside, rfl⟩
    · exact .single after_sof inside
    · exact .pair after_sof inside

/-- Every small flip is a configuration of step 2. -/
theorem SmallFlip.exists_trial {n : Nat} {l : List Nat} (h : SmallFlip n l) : ∃ m, (m, l) ∈ singleTrials n := by
  cases h with
  | single after_sof inside => exact ⟨.one, mem_singleTrials.mpr (.inl ⟨_, after_sof, inside, rfl⟩)⟩
  | pair after_sof inside => exact ⟨.twoConsecutive, mem_singleTrials.mpr (.inr ⟨_, after_sof, inside, rfl⟩)⟩

/-- The search in the frame with the bits `l` flipped ends at a configuration that flips them back. -/
theorem SmallFlip.repairSearch_eq {bs : List Byte} {l : List Nat} (short : bs.length ≤ 33) (valid : crcValid bs = true)
    (h : SmallFlip bs.length l) (u : Option Nat) : ∃ m, repairSearch ⟨l.foldl flipBit bs, u⟩ = some (m, l) := by
  rw [repairSearch, repairTrials, ← List.append_assoc, List.find?_append]
  cases search : (uncertainTrials (l.foldl flipBit bs).length u ++ singleTrials (l.foldl flipBit bs).length).find?
      fun t => crcValid (applyTrial (l.foldl flipBit bs) t) with
  | none =>
    obtain ⟨m, trial⟩ := h.exists_trial
    rw [← flipBits_length bs l] at trial
    refine absurd ?_ (List.find?_eq_none.mp search _ (List.mem_append_right _ trial))
    rw [applyTrial, flipBits_flipBits h.searchedBits, valid]
  | some t =>
    have small : SmallFlip bs.length t.2 := flipBits_length bs l ▸ smallFlip_of_mem (List.mem_of_find?_eq_some search)
    have again : crcValid (applyTrial (l.foldl flipBit bs) t) = true :=
      List.find?_some (p := fun t => crcValid (applyTrial (l.foldl flipBit bs) t)) search
    rw [h.eq_of_crcValid short valid small again]
    exact ⟨t.1, rfl⟩

theorem SmallFlip.repaired {bs : List Byte} {l : List Nat} (short : bs.length ≤ 33) (valid : crcValid bs = true)
    (h : SmallFlip bs.length l) (u : Option Nat) (interest : Option Pred) (ts : Stamp) (s : State) :
    ∃ s', exec (.repair ⟨l.foldl flipBit bs, u⟩ interest ts) s = .next s' ∧ s'.result = .repaired true ⟨bs, u⟩ := by
  obtain ⟨m, search⟩ := h.repairSearch_eq short valid u
  refine ⟨_, exec_repair_of_some (h.corrupts valid) search, ?_⟩
  rw [State.answer_result, applyTrial, flipBits_flipBits h.searchedBits]

/-- Settles O26: the effects of the small flips are distinct, so the first valid configuration is the flip itself. -/
theorem repairRestoresSingleAndPairFlips : Obligations.RepairRestoresSingleAndPairFlips := by
  intro s ts bs u interest i short valid after_sof inside
  exact ⟨(SmallFlip.single after_sof inside).repaired short valid u interest ts s,
    fun before => (SmallFlip.pair before inside).repaired short valid u interest ts s⟩

end Sys2Proof.Machine
end

section
/-! SUPPORT. The CRC register by its step, and the operations that only answer a function of their operand (41_frame_codec.md
R160 to R168; 43_crc_codec.md R230 to R232). -/

namespace Sys2Proof.Machine

open Sys2Proof.Config

theorem crcBytes_concat (bs : List Byte) (b : Byte) : crcBytes (bs ++ [b]) = crcByte (crcBytes bs) b := by
  rw [crcBytes, List.foldl_append]
  rfl

theorem isEod_eq_decide (p : Params) (g : Group) : isEod p g = decide (g.extractLsb' 0 2 ∈ p.eodAccept) :=
  List.contains_eq_mem ..

theorem isSof_eq_decide (p : Params) (g : Group) : isSof p g = decide (g ∈ p.sofAccept) := List.contains_eq_mem ..

theorem frameDataOf_eq (bs : List Byte) (k : Nat) :
    frameDataOf bs k = if 5 ≤ bs.length ∧ k < bs.length - 5 then bs[3 + k]?.getD 0 else 0 := by
  have inside : k < frameDataLenOf bs ↔ 5 ≤ bs.length ∧ k < bs.length - 5 := by
    rw [frameDataLenOf]
    split <;> omega
  rw [frameDataOf, frameByte, List.getD_eq_getElem?_getD]
  exact if_congr inside rfl rfl

/-- The bytes under the CRC are those after SOF and before the field (R231). -/
theorem crcField_eq (bs : List Byte) :
    crcField bs = (~~~(crcBytes ((bs.drop 1).take (bs.length - 3)))).setWidth 16 <<< 1 := by
  rw [crcField, List.drop_take, Nat.sub_sub]

/-- Settles O14: each operation answers its function; the EOD and SOF tests, FRAME_DATA and CRC need the equations above. -/
theorem pureCommandsAnswer : Obligations.PureCommandsAnswer := by
  refine ⟨rfl, crcBytes_concat, fun s ts b g f k => ⟨rfl, rfl, ?eod, ?sof, rfl, rfl, rfl, ?data, ?crc, rfl⟩⟩
  case eod => rw [← isEod_eq_decide]; rfl
  case sof => rw [← isSof_eq_decide]; rfl
  case data => rw [← frameDataOf_eq]; rfl
  case crc => rw [← crcField_eq]; rfl

end Sys2Proof.Machine
end

section
/-! SUPPORT. SETUP, the host's control commands and the queue's consumer side as equations, one for each branch under
the condition that selects it (44_rx_queue.md R260 to R271). -/

namespace Sys2Proof.Machine

open Sys2Proof.Config

section
variable {s : State} {ts : Stamp}

/-! ### SETUP -/

theorem capacityOk_iff (p : Params) (capacity : Word) :
    capacityOk p capacity = true ↔ 2 ≤ capacity.toNat ∧ capacity.toNat ≤ p.qMax := by
  rw [capacityOk, Bool.and_eq_true, decide_eq_true_iff, decide_eq_true_iff]

theorem capacityOk_eq_false_iff (p : Params) (capacity : Word) :
    capacityOk p capacity = false ↔ capacity.toNat < 2 ∨ p.qMax < capacity.toNat := by
  rw [← Bool.not_eq_true, capacityOk_iff]
  omega

theorem exec_setup_of_refused {rxPin txPin capacity : Word}
    (refused : s.configured = true ∨ capacityOk s.params capacity = false) :
    exec (.setup rxPin txPin capacity ts) s = .next (s.answer (.u1 false)) := by
  rcases execSetup_cases rxPin txPin capacity ts s with ⟨-, answered⟩ | ⟨off, legal, -⟩
  · exact answered
  · simp [off, legal] at refused

theorem exec_setup_of_accepted {rxPin txPin capacity : Word} (off : s.configured = false)
    (legal : capacityOk s.params capacity = true) :
    exec (.setup rxPin txPin capacity ts) s = .next ((setupState rxPin txPin capacity ts.now s).answer (.u1 true)) := by
  rcases execSetup_cases rxPin txPin capacity ts s with ⟨refused, -⟩ | ⟨-, -, answered⟩
  · simp [off, legal] at refused
  · exact answered

/-! ### Control -/

theorem exec_enable_of_configured (on : s.configured = true) :
    exec (.enable ts) s = .next ({ s with rxHostEnabled := true }.answer .none) := by
  simp only [exec, execEnable, if_pos on]

theorem exec_disable_of_configured (on : s.configured = true) :
    exec (.disable ts) s = .next ({ s with rxHostEnabled := false }.answer .none) := by
  simp only [exec, execDisable, if_pos on]

theorem exec_setDropPolicy_of_configured {threshold : Word} {p : Pred} (on : s.configured = true) :
    exec (.setDropPolicy threshold p ts) s =
      .next ({ s with dropEnabled := true, dropThreshold := threshold, isEssential := p }.answer .none) := by
  simp only [exec, execSetDropPolicy, if_pos on]

/-! ### The consumer side -/

theorem exec_available_of_configured {slot : RxSlot} (on : s.configured = true)
    (at_tail : s.rxSlots[s.tail]? = some slot) :
    exec (.available ts) s = .next (s.answer (.u1 (decide (slot.state = .done)))) := by
  simp [exec, execAvailable, on, at_tail]

theorem exec_receive_of_configured {slot : RxSlot} (on : s.configured = true)
    (at_tail : s.rxSlots[s.tail]? = some slot) :
    exec (.receive ts) s =
      if slot.state = .done then .next ((takeFrame s).answer (.received true (slotRecord slot) s.overrun))
      else .next (receiveNothing s) := by
  simp [exec, execReceive, on, at_tail]

/-- `nQueued` is the number of DONE slots (10_state.md R42). -/
theorem State.nQueued_eq_length_filter (s : State) :
    s.nQueued = (s.rxSlots.filter fun slot => decide (slot.state = .done)).length := List.countP_eq_length_filter

theorem exec_dumpStats_of_configured (on : s.configured = true) :
    exec (.dumpStats ts) s = .next (s.answer (.stats (statsOf s))) := by
  simp only [exec, execDumpStats, if_pos on]

end

/-! ### Before SETUP (R261; 10_state.md R34) -/

section
variable {s : State} {ts : Stamp} (off : s.configured = false)
include off

theorem exec_enable_of_unconfigured : exec (.enable ts) s = .next (s.answer .none) := by
  simp only [exec, execEnable, if_neg (Bool.eq_false_iff.1 off)]

theorem exec_disable_of_unconfigured : exec (.disable ts) s = .next (s.answer .none) := by
  simp only [exec, execDisable, if_neg (Bool.eq_false_iff.1 off)]

theorem exec_setDropPolicy_of_unconfigured {threshold : Word} {p : Pred} :
    exec (.setDropPolicy threshold p ts) s = .next (s.answer .none) := by
  simp only [exec, execSetDropPolicy, if_neg (Bool.eq_false_iff.1 off)]

theorem exec_available_of_unconfigured : exec (.available ts) s = .next (s.answer (.u1 false)) :=
  if_neg (Bool.eq_false_iff.1 off)

theorem exec_receive_of_unconfigured : exec (.receive ts) s = .next (receiveNothing s) :=
  if_neg (Bool.eq_false_iff.1 off)

theorem getter_of_unconfigured (v : Word) : getter v s = .next (s.answer (.u32 0)) := by
  simp only [getter, if_neg (Bool.eq_false_iff.1 off)]

theorem exec_dumpStats_of_unconfigured : exec (.dumpStats ts) s = .next (s.answer (.stats zeroStats)) := by
  simp only [exec, execDumpStats, if_neg (Bool.eq_false_iff.1 off)]

theorem enqueue_of_unconfigured (iden : BitVec 12) (flags : BitVec 4) (data : List Byte) (len : Byte) :
    enqueue iden flags data len s = .rejected := if_pos (by simp [off])

theorem exec_txEnqueue_of_unconfigured {iden : BitVec 12} {flags : BitVec 4} {data : List Byte} {len : Byte} :
    exec (.txEnqueue iden flags data len ts) s = .next (s.answer (.u1 false)) := by
  simp only [exec, execTxEnqueue, enqueue_of_unconfigured off]

theorem startSend_of_unconfigured {kind : SendKind} {iden : BitVec 12} {flags : BitVec 4} {data : List Byte}
    {len : Byte} {timeoutMs : Word} : startSend kind iden flags data len timeoutMs ts s = .next (s.endSend false) :=
  if_pos (by simp [off])

theorem exec_evEdge_of_unconfigured {level : Bit} : exec (.evEdge level ts) s = .next s :=
  if_neg fun enabled => Bool.eq_false_iff.1 off (edgeEnabled_configured enabled)

theorem exec_evTxTick_of_unconfigured {sample : Bit} : exec (.evTxTick sample ts) s = .next s :=
  if_neg fun enabled => Bool.eq_false_iff.1 off (tickEnabled_configured enabled)

end

/-- Settles O8: SETUP's two ends, by whether the block is configured and the capacity legal. -/
theorem setupWritesEveryField : Obligations.SetupWritesEveryField := by
  intro rxPin txPin capacity ts s
  constructor
  · intro refused
    exact exec_setup_of_refused (refused.imp_right (capacityOk_eq_false_iff s.params capacity).2)
  · intro off large small
    exact exec_setup_of_accepted off ((capacityOk_iff s.params capacity).2 ⟨large, small⟩)

/-- Settles O10, command by command; no event is delivered, as both sources need a configured block. -/
theorem beforeSetupNothingHappens : Obligations.BeforeSetupNothingHappens := by
  intro s ts off
  refine ⟨fun threshold p => ⟨?enable, ?disable, ?dropPolicy⟩, ?available, ?receive,
    fun iden flags data len t => ⟨?enqueue, ?send, ?syncSend⟩, ?count, ?size, ?queued, ?maxQueued, ?stats,
    fun b => ⟨?edge, ?tick⟩⟩
  case enable => exact exec_enable_of_unconfigured off
  case disable => exact exec_disable_of_unconfigured off
  case dropPolicy => exact exec_setDropPolicy_of_unconfigured off
  case available => exact exec_available_of_unconfigured off
  case receive => exact exec_receive_of_unconfigured off
  case enqueue => exact exec_txEnqueue_of_unconfigured off
  case send => exact startSend_of_unconfigured off
  case syncSend => exact startSend_of_unconfigured off
  case count => exact getter_of_unconfigured off s.rxStats.rxCount
  case size => exact getter_of_unconfigured off s.q
  case queued => exact getter_of_unconfigured off (BitVec.ofNat 32 s.nQueued)
  case maxQueued => exact getter_of_unconfigured off s.rxStats.maxQueued
  case stats => exact exec_dumpStats_of_unconfigured off
  case edge => exact exec_evEdge_of_unconfigured off
  case tick => exact exec_evTxTick_of_unconfigured off

/-- Settles O11: each command's write on a configured block, and none before SETUP. -/
theorem controlCommandsWriteTheirRegisters : Obligations.ControlCommandsWriteTheirRegisters := by
  intro s threshold p ts
  by_cases on : s.configured = true
  · simp only [if_pos on]
    exact ⟨exec_enable_of_configured on, exec_disable_of_configured on, exec_setDropPolicy_of_configured on⟩
  · have off := Bool.eq_false_iff.2 on
    simp only [if_neg on]
    exact ⟨exec_enable_of_unconfigured off, exec_disable_of_unconfigured off, exec_setDropPolicy_of_unconfigured off⟩

/-- Settles O12: RECEIVE's branches, by the configuration and the state of the slot at `tail`. -/
theorem receiveTakesTheTailFrame : Obligations.ReceiveTakesTheTailFrame := by
  intro s ts
  refine ⟨exec_receive_of_unconfigured, fun slot on at_tail => ?_⟩
  rw [exec_receive_of_configured on at_tail]
  exact ⟨fun other => if_neg other, fun done => if_pos done⟩

/-- Settles O13: each query is its equation; for GET_N_QUEUED and DUMP_STATS, `nQueued` counts the DONE slots. -/
theorem queriesAnswerAndChangeNothing : Obligations.QueriesAnswerAndChangeNothing := by
  intro s ts
  refine ⟨exec_available_of_unconfigured, fun slot => exec_available_of_configured, rfl, rfl, ?queued, rfl,
    fun on => ?stats, exec_dumpStats_of_unconfigured⟩
  case queued =>
    rw [← s.nQueued_eq_length_filter]
    rfl
  case stats =>
    rw [exec_dumpStats_of_configured on, ← s.nQueued_eq_length_filter]
    rfl

end Sys2Proof.Machine
end

section
/-! SUPPORT. The frame that PREPARE_PACKET builds (45_tx.md R300): its bytes by position, and what its accessors read
back (41_frame_codec.md R165 to R168). -/

namespace Sys2Proof.Machine

open Sys2Proof.Config

theorem badLength_eq_false_iff (data : List Byte) (len : Byte) :
    badLength data len = false ↔ len.toNat ≤ 28 ∧ len.toNat ≤ data.length := by
  simp [badLength]

theorem badLength_iff (data : List Byte) (len : Byte) :
    badLength data len = true ↔ 28 < len.toNat ∨ data.length < len.toNat := by
  simp [badLength]

/-- The field under construction is not under the CRC itself (43_crc_codec.md R231). -/
theorem crcField_of_empty_field (f : List Byte) : crcField (f ++ [0, 0]) = crcFieldOf (crcBytes (f.drop 1)) := by
  simp [crcField, crcFieldOf]

section
variable (iden : BitVec 12) (flags : BitVec 4) (data : List Byte) (len : Byte)

/-- The CRC field of the built frame (R300). -/
def builtField : BitVec 16 := crcFieldOf (crcBytes ((frameHead iden flags data len).drop 1))

theorem buildFrame_eq : buildFrame iden flags data len = frameHead iden flags data len ++
    [(builtField iden flags data len).extractLsb' 8 8, (builtField iden flags data len).extractLsb' 0 8] := by
  simp only [buildFrame, builtField, crcField_of_empty_field]

/-- The built frame without its last byte. -/
def builtInit : List Byte := frameHead iden flags data len ++ [(builtField iden flags data len).extractLsb' 8 8]

/-- The low byte of the built frame's CRC field. -/
def builtLast : Byte := (builtField iden flags data len).extractLsb' 0 8

theorem buildFrame_concat :
    buildFrame iden flags data len = builtInit iden flags data len ++ [builtLast iden flags data len] := by
  rw [buildFrame_eq, builtInit, builtLast, List.append_assoc, List.cons_append, List.nil_append]

/-- The always-zero bit of the CRC field (30_encoding.md R109). -/
theorem builtLast_clear : (builtLast iden flags data len).getLsbD 0 = false := by
  rw [builtLast, BitVec.getLsbD_extractLsb', Nat.zero_add, builtField, crcFieldOf_getLsbD_zero, Bool.and_false]

variable {data len}

theorem builtInit_length (length_ok : badLength data len = false) :
    (builtInit iden flags data len).length = len.toNat + 4 := by
  rw [builtInit, List.length_append, frameHead_length iden flags length_ok, List.length_singleton]

variable (data len)

theorem frameIdenOf_buildFrame : frameIdenOf (buildFrame iden flags data len) = iden := by
  have bytes : frameIdenOf (buildFrame iden flags data len) =
      iden.extractLsb' 4 8 ++ (iden.extractLsb' 0 4 ++ flags).extractLsb' 4 4 := rfl
  rw [bytes]
  ext i hi
  simp only [BitVec.getElem_append, BitVec.getElem_extractLsb', BitVec.getLsbD_append, BitVec.getLsbD_extractLsb']
  split
  · simp [show i < 4 by omega, BitVec.getLsbD_eq_getElem hi]
  · simp [show 4 + (i - 4) = i by omega, BitVec.getLsbD_eq_getElem hi]

theorem frameFlagsOf_buildFrame : frameFlagsOf (buildFrame iden flags data len) = flags := by
  have byte : frameFlagsOf (buildFrame iden flags data len) = (iden.extractLsb' 0 4 ++ flags).extractLsb' 0 4 := rfl
  rw [byte]
  ext i hi
  rw [BitVec.getElem_extractLsb', Nat.zero_add, BitVec.getLsbD_append, if_pos hi, BitVec.getLsbD_eq_getElem]

variable {data len}

/-- Data byte `k` stands at byte `3 + k` of the frame. -/
theorem buildFrame_getD_data (length_ok : badLength data len = false) {k : Nat} (hk : k < len.toNat) :
    (buildFrame iden flags data len).getD (3 + k) 0 = data.getD k 0 := by
  obtain ⟨-, given⟩ := len_le_of_not_badLength length_ok
  rw [buildFrame_eq, List.getD_eq_getElem?_getD, List.getD_eq_getElem?_getD,
    List.getElem?_append_left (by rw [frameHead_length iden flags length_ok]; omega), Nat.add_comm 3 k]
  simp only [frameHead, List.getElem?_cons_succ, List.getElem?_take_of_lt hk]

end

/-- Settles O41: PREPARE_PACKET's two branches, the frame being that of `buildFrame_eq`. -/
theorem preparePacketBuildsTheFrame : Obligations.PreparePacketBuildsTheFrame := by
  intro s ts iden flags data len
  constructor
  · intro bad
    exact if_pos ((badLength_iff data len).2 bad)
  · intro short given f c
    have good : ¬ badLength data len = true := by
      rw [badLength_iff]
      omega
    have frame : buildFrame iden flags data len = f ++ [c.extractLsb' 8 8, c.extractLsb' 0 8] :=
      buildFrame_eq iden flags data len
    rw [← frame]
    exact if_neg good

/-- Settles O42: the accessors read the frame byte by byte, and the CRC field ends in its always-zero bit. -/
theorem builtFramesPassTheCheck : Obligations.BuiltFramesPassTheCheck := by
  intro iden flags data len short given f
  have length_ok : badLength data len = false := (badLength_eq_false_iff data len).2 ⟨short, given⟩
  have length : f.length = len.toNat + 5 := buildFrame_length iden flags length_ok
  have data_length : frameDataLenOf f = len.toNat := by
    rw [frameDataLenOf, length, if_pos (Nat.le_add_left 5 _), Nat.add_sub_cancel]
  refine ⟨crcValid_buildFrame iden flags data len, length, ?stream, frameIdenOf_buildFrame iden flags data len,
    frameFlagsOf_buildFrame iden flags data len, data_length, fun k hk => ?data, ?zero⟩
  case stream =>
    rw [show f = _ from buildFrame_concat iden flags data len, stuffStream_length, builtInit_length iden flags length_ok]
  case data =>
    rw [frameDataOf, data_length, if_pos hk]
    exact buildFrame_getD_data iden flags length_ok hk
  case zero =>
    rw [show f = _ from buildFrame_concat iden flags data len, ← builtInit_length iden flags length_ok,
      List.getD_append_right _ _ _ _ le_rfl, Nat.sub_self]
    exact builtLast_clear iden flags data len

end Sys2Proof.Machine
end

section
/-! SUPPORT. The runs of equal bits in the stream of a frame, as the receiver sees them: short, and none that the reference
corrections would change (30_encoding.md R105; 42_rx_decoder.md R188). -/

namespace Sys2Proof.Machine

open Sys2Proof.Config

section
variable {bs : List Byte} {b : Byte} {p n : Nat} {v : Bit}

theorem stuffBits_getElem?_lt {q : Nat} (h : (stuffBits (bs ++ [b]))[q]? = some v) : q < 10 * bs.length + 10 := by
  rw [← stuffBits_length bs b]
  exact (List.getElem?_eq_some_iff.1 h).1

/-- Six equal bits end the stream, so there are never seven. -/
theorem stuffBits_run_le_six (clear : b.getLsbD 0 = false)
    (run : ∀ j < n, (stuffBits (bs ++ [b]))[p + j]? = some v) : n ≤ 6 := by
  by_contra long
  have ends := stuffedRunLengths.2 bs b p v clear fun j hj => run j (by omega)
  have ends' := stuffedRunLengths.2 bs b (p + 1) v clear fun j hj => by
    rw [Nat.add_assoc]
    exact run (1 + j) (by omega)
  omega

/-- A run covers a check bit past its first bit only where the EOD marker replaced that check bit. -/
theorem stuffBits_run_check (clear : b.getLsbD 0 = false)
    (run : ∀ j < n, (stuffBits (bs ++ [b]))[p + j]? = some v) {k : Nat} (first : 1 ≤ k) (hk : k < n)
    (check : (p + k) % 10 = 4 ∨ (p + k) % 10 = 9) : p + k = 10 * bs.length + 9 := by
  have bound := stuffBits_getElem?_lt (run k hk)
  by_contra inside
  have before := run (k - 1) (by omega)
  have at_check := run k hk
  rw [stuffBits_eq_encStream clear (by omega)] at before at_check
  have inverse := encStream_check (by omega) before
  rw [show p + (k - 1) + 1 = p + k by omega, at_check] at inverse
  cases v <;> cases inverse

/-- The table corrects no run of a frame: five equal bits that end in the EOD marker have the form of R188. -/
theorem stuffBits_run_not_swallowed {st : RxState} (clear : b.getLsbD 0 = false)
    (run : ∀ j < n, (stuffBits (bs ++ [b]))[p + j]? = some v) (loading : 10 ≤ p → st = .loading)
    (long : 1 ≤ bs.length) : swallowedCheckBit st v (p % 10) n ≠ true := by
  rw [Ne, swallowedCheckBit_iff]
  rintro ⟨length, ⟨k, first, hk, check⟩, not_eod⟩
  have n_le := stuffBits_run_le_six clear run
  obtain rfl : n = 5 := by omega
  have marker := stuffBits_run_check clear run first hk (by omega)
  have bound := stuffBits_getElem?_lt (run 4 (by decide))
  have dominant := run k hk
  rw [marker, stuffBits_last] at dominant
  cases dominant
  exact not_eod ⟨loading (by omega), rfl, by omega, rfl⟩

end

end Sys2Proof.Machine
end

section
/-! SUPPORT. The bit accumulator while a stream is received: the newest bits of the stream, and the group of the oldest ten
(42_rx_decoder.md R184, R185). -/

namespace Sys2Proof.Machine

open Sys2Proof.Config

/-- The register's `m` lowest bits are the `m` bits of the stream before position `e`, the newest lowest. -/
def Accumulated (w : List Bit) (e m : Nat) (bits : BitVec 20) : Prop := ∀ i < m, w[e - 1 - i]? = some (bits.getLsbD i)

theorem accumulated_none (w : List Bit) (e : Nat) (bits : BitVec 20) : Accumulated w e 0 bits :=
  fun _ hi => absurd hi (Nat.not_lt_zero _)

theorem ones_getLsbD (n : Nat) {i : Nat} (hi : i < 20) : (BitVec.ofNat 20 (2 ^ n - 1)).getLsbD i = decide (i < n) := by
  rw [BitVec.getLsbD_ofNat, Nat.testBit_two_pow_sub_one, decide_eq_true hi, Bool.true_and]

/-- The run's bits come in below those already there. -/
theorem runBits_getLsbD (level : Bit) (n : Nat) (s : State) {i : Nat} (hi : i < 20) :
    (runBits level n s).getLsbD i = if i < n then !level else s.readBits.getLsbD (i - n) := by
  rw [runBits, BitVec.getLsbD_or, BitVec.getLsbD_shiftLeft, decide_eq_true hi, Bool.true_and]
  cases level
  · rw [if_neg Bool.false_ne_true, ones_getLsbD n hi]
    by_cases new : i < n <;> simp [new]
  · by_cases new : i < n <;> simp [new]

section
variable {w : List Bit} {e n : Nat} {level : Bit} {s : State}

theorem Accumulated.append (held : Accumulated w e s.nBits s.readBits) (inside : s.nBits ≤ e)
    (run : ∀ j < n, w[e + j]? = some (!level)) (room : s.nBits + n ≤ 20) :
    Accumulated w (e + n) (s.nBits + n) (runBits level n s) := by
  intro i hi
  rw [runBits_getLsbD level n s (by omega)]
  split
  · next new =>
    rw [← run (n - 1 - i) (by omega)]
    congr 1
    omega
  · next old =>
    rw [← held (i - n) (by omega)]
    congr 1
    omega

/-- What is left in the register once its oldest bits are taken (R185). -/
theorem Accumulated.mask {m : Nat} {bits : BitVec 20} (held : Accumulated w e m bits) {k : Nat} (hk : k ≤ m)
    (room : m ≤ 20) : Accumulated w e k (bits &&& BitVec.ofNat 20 (2 ^ k - 1)) := by
  intro i hi
  rw [BitVec.getLsbD_and, ones_getLsbD k (by omega), decide_eq_true hi, Bool.and_true]
  exact held i (by omega)

/-- The group a run fills is the stream's group, if all ten bits of that one are in the register. -/
theorem Accumulated.runGroup_eq {gs : List Group} {k : Nat} {g : Group}
    (held : Accumulated (gs.flatMap groupBitsOf) (e + n) (s.nBits + n) (runBits level n s))
    (full : 10 ≤ s.nBits + n) (room : s.nBits + n ≤ 20) (start : e + n = 10 * k + (s.nBits + n))
    (group : gs[k]? = some g) : runGroup level n s = g := by
  refine BitVec.eq_of_getLsbD_eq fun j hj => ?_
  have bit := held (s.nBits + n - 10 + j) (by omega)
  rw [show e + n - 1 - (s.nBits + n - 10 + j) = 10 * k + (9 - j) by omega, groupStream_getElem?,
    show (10 * k + (9 - j)) / 10 = k by omega, group, show 9 - (10 * k + (9 - j)) % 10 = j by omega] at bit
  rw [runGroup, BitVec.getLsbD_setWidth, BitVec.getLsbD_ushiftRight, decide_eq_true hj, Bool.true_and]
  exact (Option.some.inj bit).symm

end

end Sys2Proof.Machine
end

section
/-! SUPPORT. One edge of a frame received at exact bit-times (45_tx.md R301): the run it ends is counted exactly, and the
decoder's next state is a function of the bits received so far. -/

namespace Sys2Proof.Machine

open Sys2Proof.Config

/-! ### A run at exact bit-times -/

/-- A whole number of bit-times is its own estimate (R145). -/
theorem fallbackCount_exact {t : Nat} (t_pos : 0 < t) (n : Nat) : fallbackCount t (n * t : Nat) = n := by
  refine Nat.le_antisymm ((fallbackCount_le_iff t_pos _ _).2 ?_) ?_
  · push_cast
    linarith
  · by_contra below
    have := (fallbackCount_le_iff t_pos (n * t : Nat) (n - 1)).1 (by omega)
    obtain ⟨k, rfl⟩ : ∃ k, n = k + 1 := ⟨n - 1, by omega⟩
    rw [Nat.add_sub_cancel] at this
    push_cast at this
    linarith

/-- A run of whole bit-times is counted exactly and leaves no carry (R142 to R144). -/
theorem bitCount_exact {p : Params} (bands : ReferenceBandsAt p.t p.bandTable) (t_pos : 0 < p.t) {cycles : Word} {n : Nat}
    (exact_cycles : cycles.toNat = n * p.t) (pos : 1 ≤ n) (short : n ≤ 10) :
    bitCount p cycles 0 = { n := n, jitter := 0 } := by
  have e_eq : effectiveInterval cycles 0 = (n * p.t : Nat) := by
    rw [effectiveInterval, exact_cycles]
    exact Int.sub_zero _
  rw [bitCount_of_referenceBandsAt bands t_pos, e_eq, fallbackCount_exact t_pos, if_neg (by omega), if_pos short,
    if_neg (lt_irrefl _)]

theorem bitTime_sub (t : Nat) (t0 : Word) (e n : Nat) :
    bitTime t t0 (e + n) - bitTime t t0 e = BitVec.ofNat 32 (n * t) := by
  rw [bitTime, bitTime, Nat.add_mul, BitVec.ofNat_add, ← BitVec.add_assoc, BitVec.add_comm _ (BitVec.ofNat 32 (n * t)),
    BitVec.add_sub_cancel]

/-! ### The decoder in mid-frame -/

/-- A configured receiver with the reference parameters that listens to the bus and waits for no ACK. -/
structure Listening (s : State) : Prop where
  configured : s.configured = true
  host : s.rxHostEnabled = true
  bus : s.rxTxSuspended = false
  disarmed : s.ackArmed = false
  params : s.params = paramsAt s.params.t
  t_pos : 0 < s.params.t
  t_lt : 10 * s.params.t < 2 ^ 32
  head_lt : s.head < s.rxSlots.length

/-- A frame `bs ++ [b]` that the receiver takes whole: it begins with SOF, has 5 to 33 bytes, and ends in a 0 bit. -/
structure Receivable (bs : List Byte) (b : Byte) : Prop where
  sof : bs[0]? = some sofByte
  long : 4 ≤ bs.length
  short : bs.length < maxFrame
  clear : b.getLsbD 0 = false

/-- The slot at `head` after `k` groups of a frame. -/
def partialSlot (f : List Byte) : Nat → RxSlot
  | 0 => searchSlot
  | k + 1 => { vacantSlot with state := .loading, bytes := bufferOf (f.take (k + 1)), size := k + 1 }

/-- The receiver `s` in mid-frame: the last edge was at `now`, the register holds `m` bits, and the slot at `head` is
`slot`. -/
def decoding (s : State) (now last : Word) (bits : BitVec 20) (m : Nat) (slot : RxSlot) : State :=
  { s with
    prevEdgeTime := now
    lastBusActivity := last
    readBits := bits
    nBits := m
    jitter := 0
    rxSlots := s.rxSlots.set s.head slot }

/-- `u` is the receiver `s` after the first `e` bits of the frame `f`, the last of which ended with an edge. -/
def Receiving (s : State) (f : List Byte) (t0 : Word) (e : Nat) (u : State) : Prop :=
  ∃ last bits, Accumulated (stuffBits f) e (e % 10) bits ∧
    u = decoding s (bitTime s.params.t t0 e) last bits (e % 10) (partialSlot f (e / 10))

/-- `u` is the receiver `s` with the whole frame `f` in the slot at `head`, waiting for its ACK. -/
def AwaitingAck (s : State) (f : List Byte) (u : State) : Prop :=
  ∃ now last bits m deadline, u =
    { decoding s now last bits m { partialSlot f f.length with state := .waitingAck } with
      ackArmed := true
      ackDeadline := deadline }

section
variable (s : State) (now last : Word) (bits : BitVec 20) (m : Nat) (slot : RxSlot)

theorem decoding_at_head (head_lt : s.head < s.rxSlots.length) :
    (decoding s now last bits m slot).rxSlots[(decoding s now last bits m slot).head]? = some slot :=
  List.getElem?_set_self head_lt

end

theorem partialSlot_of_ge {f : List Byte} {e : Nat} (h : 10 ≤ e) : partialSlot f (e / 10) =
    { vacantSlot with state := .loading, bytes := bufferOf (f.take (e / 10)), size := e / 10 } := by
  obtain ⟨k, hk⟩ : ∃ k, e / 10 = k + 1 := ⟨e / 10 - 1, by omega⟩
  rw [hk]
  rfl

/-- Storing a byte at the end of a buffer. -/
theorem writeByte_bufferOf_end (l : List Byte) (v : Byte) : writeByte (bufferOf l) l.length v = bufferOf (l ++ [v]) := by
  refine cellsWf_ext (memoryWf_writeByte_end v (memoryWf_bufferOf l)) (memoryWf_bufferOf (l ++ [v])) fun a => ?_
  rw [readByte_bufferOf]
  by_cases at_end : a = l.length
  · subst at_end
    rw [readByte_writeByte_same (memoryWf_bufferOf l)]
    simp
  · rw [readByte_writeByte_other _ v at_end, readByte_bufferOf]
    rcases Nat.lt_or_gt_of_ne at_end with inside | outside
    · rw [List.getD_append _ _ _ _ inside]
    · rw [List.getD_eq_default _ _ outside.le, List.getD_eq_default _ _ (by simpa using outside)]

/-- Loading the next group of a frame. -/
theorem storeGroup_partialSlot {f : List Byte} {k : Nat} {g : Group} {v : Byte} (byte : f[k + 1]? = some v)
    (decoded : decGroup g = v) : storeGroup g (partialSlot f (k + 1)) = partialSlot f (k + 2) := by
  obtain ⟨inside, at_k⟩ := List.getElem?_eq_some_iff.1 byte
  have length : (f.take (k + 1)).length = k + 1 := List.length_take_of_le inside.le
  have grown : f.take (k + 2) = f.take (k + 1) ++ [v] := by
    rw [List.take_succ_eq_append_getElem inside, at_k]
  have stored := writeByte_bufferOf_end (f.take (k + 1)) v
  rw [length] at stored
  simp only [storeGroup, partialSlot, grown, decoded, ← stored]

/-- The EOD marker changes no bit of a byte that ends in 0. -/
theorem decGroup_eodGroup {b : Byte} (clear : b.getLsbD 0 = false) : decGroup (eodGroup b) = b := by
  have same : decGroup (eodGroup b) = decGroup (encGroup b) := by
    refine BitVec.eq_of_getLsbD_eq fun j hj => ?_
    rw [decGroup_getLsbD _ hj, decGroup_getLsbD _ hj]
    exact eodGroup_getLsbD_of_clear clear (by split <;> omega) (by split <;> omega)
  exact same.trans (decGroup_encGroup b)

/-! ### A run that is counted exactly and not corrected -/

section
variable {u : State} {slot : RxSlot} {level : Bit} {ts : Stamp} {n : Nat} (on : u.configured = true)
  (host : u.rxHostEnabled = true) (bus : u.rxTxSuspended = false) (at_head : u.rxSlots[u.head]? = some slot)
  (counted : bitCount u.params (ts.now - u.prevEdgeTime) u.jitter = { n := n, jitter := 0 })
  (kept : correctRun u.params (!level) u.nBits { n := n, jitter := 0 } slot = { n := n, jitter := 0, slot := slot })
  (short : n ≤ 10)
include on host bus at_head counted kept short

/-- R184, for a run that completes no group. -/
theorem exec_evEdge_of_few (running : slot.state = .searching ∨ slot.state = .loading) (few : u.nBits + n < 10) :
    exec (.evEdge level ts) u =
      .next (decoding u ts.now (if level then ts.now else u.lastBusActivity) (runBits level n u) (u.nBits + n) slot) := by
  have edge := shortRunIsAppended u slot level ts on host bus at_head running
  dsimp only at edge
  rw [counted, kept] at edge
  exact edge short few

/-- R187, for a first group that is accepted. -/
theorem exec_evEdge_of_sof (searching : slot.state = .searching) (full : 10 ≤ u.nBits + n)
    (sof : runGroup level n u ∈ u.params.sofAccept) :
    exec (.evEdge level ts) u =
      .next (decoding u ts.now (if level then ts.now else u.lastBusActivity)
        (runBits level n u &&& BitVec.ofNat 20 (2 ^ (u.nBits + n - 10) - 1)) (u.nBits + n - 10)
        { slot with bytes := writeByte slot.bytes 0 sofByte, size := 1, state := .loading }) := by
  have edge := firstGroupIsTheSofTest u slot level ts on host bus at_head searching
  dsimp only at edge
  rw [counted, kept] at edge
  obtain ⟨accepted, -⟩ := edge short full
  exact accepted sof

/-- R191, for a group that does not end the data. -/
theorem exec_evEdge_of_data (loading : slot.state = .loading) (full : 10 ≤ u.nBits + n) (room : slot.size < maxFrame)
    (data : (runGroup level n u).extractLsb' 0 2 ∉ u.params.eodAccept) :
    exec (.evEdge level ts) u =
      .next (decoding u ts.now (if level then ts.now else u.lastBusActivity)
        (runBits level n u &&& BitVec.ofNat 20 (2 ^ (u.nBits + n - 10) - 1)) (u.nBits + n - 10)
        (storeGroup (runGroup level n u) slot)) := by
  have edge := laterGroupsAreLoaded u slot level ts on host bus at_head loading
  dsimp only at edge
  rw [counted, kept] at edge
  obtain ⟨stored, -, -⟩ := edge short full
  exact stored room (.inl data)

/-- R192, for a group that ends the data. -/
theorem exec_evEdge_of_eod (loading : slot.state = .loading) (full : 10 ≤ u.nBits + n) (room : slot.size < maxFrame)
    (eod : (runGroup level n u).extractLsb' 0 2 ∈ u.params.eodAccept) (long : minEodSize ≤ slot.size + 1) :
    exec (.evEdge level ts) u = .next
      { decoding u ts.now (if level then ts.now else u.lastBusActivity)
          (runBits level n u &&& BitVec.ofNat 20 (2 ^ (u.nBits + n - 10) - 1)) (u.nBits + n - 10)
          { storeGroup (runGroup level n u) slot with state := .waitingAck } with
        ackArmed := true
        ackDeadline := ts.now + BitVec.ofNat 32 u.params.ackTimeout } := by
  have edge := laterGroupsAreLoaded u slot level ts on host bus at_head loading
  dsimp only at edge
  rw [counted, kept] at edge
  obtain ⟨-, ended, -⟩ := edge short full
  exact ended room eod long

end

theorem decoding_decoding (s : State) (now now' last last' : Word) (bits bits' : BitVec 20) (m m' : Nat)
    (slot slot' : RxSlot) :
    decoding (decoding s now last bits m slot) now' last' bits' m' slot' = decoding s now' last' bits' m' slot' := by
  simp only [decoding, List.set_set]

/-! ### An edge in mid-frame -/

section
variable {s u : State} {bs : List Byte} {b : Byte} {t0 ms : Word} {e n : Nat} {level : Bit}

theorem Listening.counted (rx : Listening s) (pos : 1 ≤ n) (short : n ≤ 10) :
    bitCount s.params (bitTime s.params.t t0 (e + n) - bitTime s.params.t t0 e) 0 = { n := n, jitter := 0 } := by
  have bands : ReferenceBandsAt s.params.t s.params.bandTable := by
    rw [rx.params]
    exact referenceBandsAt_referenceBands s.params.t
  refine bitCount_exact bands rx.t_pos ?_ pos short
  have le : n * s.params.t ≤ 10 * s.params.t := Nat.mul_le_mul_right _ short
  have lt := rx.t_lt
  rw [bitTime_sub, BitVec.toNat_ofNat, Nat.mod_eq_of_lt (by omega)]

theorem partialSlot_running (f : List Byte) (k : Nat) :
    (partialSlot f k).state = .searching ∨ (partialSlot f k).state = .loading := by
  cases k with
  | zero => exact .inl rfl
  | succ k => exact .inr rfl

theorem Listening.kept (rx : Listening s) (frame : Receivable bs b)
    (run : ∀ j < n, (stuffBits (bs ++ [b]))[e + j]? = some (!level)) :
    correctRun s.params (!level) (e % 10) { n := n, jitter := 0 } (partialSlot (bs ++ [b]) (e / 10)) =
      { n := n, jitter := 0, slot := partialSlot (bs ++ [b]) (e / 10) } := by
  have table : s.params.runCorrections = referenceCorrections s.params.t := by
    rw [rx.params]
    rfl
  have loading (later : 10 ≤ e) : (partialSlot (bs ++ [b]) (e / 10)).state = .loading := by
    rw [partialSlot_of_ge later]
  have long := frame.long
  exact correctRun_of_none (findCorrection_of_not_swallowed table
    (stuffBits_run_not_swallowed frame.clear run loading (by omega)))

end

end Sys2Proof.Machine
end

section
/-! SUPPORT. A frame fed at exact bit-times (45_tx.md R301; 30_encoding.md R121): each edge takes the receiver on to the bits
before it, the edge after the EOD marker to the ACK wait, and the timer's expiry completes the frame. -/

namespace Sys2Proof.Machine

open Sys2Proof.Config

/-! ### The edges of a frame -/

section
variable {s u : State} {bs : List Byte} {b : Byte} {t0 ms : Word} {e n : Nat} {level : Bit}

theorem encGroup_sofByte_mem_sofAccept (rx : Listening s) : encGroup sofByte ∈ s.params.sofAccept := by
  rw [rx.params]
  exact List.mem_cons_self

theorem mem_eodAccept_iff (rx : Listening s) (x : BitVec 2) : x ∈ s.params.eodAccept ↔ x = 0 := by
  rw [rx.params]
  exact List.mem_singleton

theorem partialSlot_one (frame : Receivable bs b) : partialSlot (bs ++ [b]) 1 =
    { searchSlot with bytes := writeByte searchSlot.bytes 0 sofByte, size := 1, state := .loading } := by
  obtain ⟨inside, first⟩ := List.getElem?_eq_some_iff.1 frame.sof
  have start : (bs ++ [b]).take 1 = [sofByte] := by
    rw [List.take_one, List.head?_eq_getElem?, List.getElem?_append_left inside, frame.sof]
    rfl
  rw [partialSlot, start]
  rfl

/-- What an edge of the frame `f` at bit `e + n` finds in `u`, the last edge having been at bit `e`: the run between them is
counted exactly and not corrected, and its bits come into the register. -/
structure RunReceived (s : State) (f : List Byte) (t0 : Word) (e n : Nat) (level : Bit) (u : State) : Prop where
  configured : u.configured = true
  host : u.rxHostEnabled = true
  bus : u.rxTxSuspended = false
  at_head : u.rxSlots[u.head]? = some (partialSlot f (e / 10))
  counted : bitCount u.params (bitTime s.params.t t0 (e + n) - u.prevEdgeTime) u.jitter = { n := n, jitter := 0 }
  kept : correctRun u.params (!level) u.nBits { n := n, jitter := 0 } (partialSlot f (e / 10)) =
    { n := n, jitter := 0, slot := partialSlot f (e / 10) }
  short : n ≤ 6
  nBits : u.nBits = e % 10
  params : u.params = s.params
  /-- the register with the run appended -/
  bits : Accumulated (stuffBits f) (e + n) (u.nBits + n) (runBits level n u)
  /-- the next state is one of the receiver `s` again -/
  decoding_eq : ∀ now last bits m slot, decoding u now last bits m slot = decoding s now last bits m slot

/-- The runs of a frame are short and none is in the correction table, so each edge receives its run as it is. -/
theorem Receiving.run (at_e : Receiving s (bs ++ [b]) t0 e u) (rx : Listening s) (frame : Receivable bs b)
    (run : ∀ j < n, (stuffBits (bs ++ [b]))[e + j]? = some (!level)) (pos : 1 ≤ n) :
    RunReceived s (bs ++ [b]) t0 e n level u := by
  have short := stuffBits_run_le_six frame.clear run
  obtain ⟨last, bits, held, rfl⟩ := at_e
  exact
    { configured := rx.configured
      host := rx.host
      bus := rx.bus
      at_head := decoding_at_head s _ _ _ _ _ rx.head_lt
      counted := rx.counted pos (by omega)
      kept := rx.kept frame run
      short := short
      nBits := rfl
      params := rfl
      bits := Accumulated.append held (Nat.mod_le e 10) run (show e % 10 + n ≤ 20 by omega)
      decoding_eq := fun _ _ _ _ _ => decoding_decoding .. }

section
variable {f : List Byte} (r : RunReceived s f t0 e n level u)
include r

theorem RunReceived.room : u.nBits + n ≤ 20 := by
  have short := r.short
  rw [r.nBits]
  omega

/-- A run that fills group `e / 10` of the frame. -/
theorem RunReceived.runGroup_eq (full : 10 ≤ u.nBits + n) {g : Group} (group : (stuffGroups f)[e / 10]? = some g) :
    runGroup level n u = g :=
  r.bits.runGroup_eq full r.room (by rw [r.nBits]; omega) group

/-- The bits after that group stay in the register. -/
theorem RunReceived.receiving_next (full : 10 ≤ u.nBits + n) (last : Word) {slot : RxSlot}
    (slot_eq : slot = partialSlot f (e / 10 + 1)) :
    Receiving s f t0 (e + n) (decoding u (bitTime s.params.t t0 (e + n)) last
      (runBits level n u &&& BitVec.ofNat 20 (2 ^ (u.nBits + n - 10) - 1)) (u.nBits + n - 10) slot) := by
  have short := r.short
  have m_eq : u.nBits + n - 10 = (e + n) % 10 := by
    rw [r.nBits] at full ⊢
    omega
  have k_eq : e / 10 + 1 = (e + n) / 10 := by
    rw [r.nBits] at full
    omega
  have left := r.bits.mask (Nat.sub_le (u.nBits + n) 10) r.room
  rw [r.decoding_eq, slot_eq, k_eq]
  rw [m_eq] at left ⊢
  exact ⟨_, _, left, rfl⟩

end

/-- An edge whose run fills no group (R184). -/
theorem RunReceived.few {f : List Byte} (r : RunReceived s f t0 e n level u) (few : u.nBits + n < 10) :
    ∃ u', exec (.evEdge level ⟨bitTime s.params.t t0 (e + n), ms⟩) u = .next u' ∧ Receiving s f t0 (e + n) u' := by
  have short := r.short
  refine ⟨_, exec_evEdge_of_few r.configured r.host r.bus r.at_head r.counted r.kept (by omega)
    (partialSlot_running _ _) few, ?_⟩
  have held := r.bits
  rw [r.nBits] at few held ⊢
  rw [r.decoding_eq, Receiving, show (e + n) % 10 = e % 10 + n by omega, show (e + n) / 10 = e / 10 by omega]
  exact ⟨_, _, held, rfl⟩

/-- An edge whose run fills the SOF byte's group, which is accepted (R187). -/
theorem RunReceived.sof (r : RunReceived s (bs ++ [b]) t0 e n level u) (rx : Listening s) (frame : Receivable bs b)
    (full : 10 ≤ u.nBits + n) (first : e < 10) :
    ∃ u', exec (.evEdge level ⟨bitTime s.params.t t0 (e + n), ms⟩) u = .next u' ∧
      Receiving s (bs ++ [b]) t0 (e + n) u' := by
  have short := r.short
  have k_eq : e / 10 = 0 := Nat.div_eq_of_lt first
  obtain ⟨inside, at_zero⟩ := List.getElem?_eq_some_iff.1 frame.sof
  have group : runGroup level n u = encGroup sofByte := by
    refine r.runGroup_eq full ?_
    rw [k_eq, stuffGroups_before_last b inside, List.getD_eq_getElem _ _ inside, at_zero]
  refine ⟨_, exec_evEdge_of_sof r.configured r.host r.bus r.at_head r.counted r.kept (by omega) ?_ full ?_,
    r.receiving_next full _ ?_⟩
  · rw [k_eq]
    rfl
  · rw [group, r.params]
    exact encGroup_sofByte_mem_sofAccept rx
  · rw [k_eq, partialSlot_one frame]
    rfl

/-- An edge whose run fills the group of a later byte but the last, which is loaded (R191). -/
theorem RunReceived.data (r : RunReceived s (bs ++ [b]) t0 e n level u) (rx : Listening s) (frame : Receivable bs b)
    (full : 10 ≤ u.nBits + n) (later : 10 ≤ e) (inside : e / 10 < bs.length) :
    ∃ u', exec (.evEdge level ⟨bitTime s.params.t t0 (e + n), ms⟩) u = .next u' ∧
      Receiving s (bs ++ [b]) t0 (e + n) u' := by
  have short := r.short
  have frame_short := frame.short
  obtain ⟨k, k_eq⟩ : ∃ k, e / 10 = k + 1 := ⟨e / 10 - 1, by omega⟩
  have group : runGroup level n u = encGroup (bs.getD (e / 10) 0) :=
    r.runGroup_eq full (stuffGroups_before_last b inside)
  have byte : (bs ++ [b])[e / 10]? = some (bs.getD (e / 10) 0) := by
    rw [List.getElem?_append_left inside, List.getD_eq_getElem _ _ inside, List.getElem?_eq_getElem inside]
  obtain ⟨-, -, no_marker, -⟩ := stuffingIsExactlyTheWellFormedGroups
  refine ⟨_, exec_evEdge_of_data r.configured r.host r.bus r.at_head r.counted r.kept (by omega) ?_ full ?_ ?_,
    r.receiving_next full _ ?_⟩
  · rw [k_eq]
    rfl
  · rw [k_eq] at inside ⊢
    exact inside.trans frame_short
  · rw [group, r.params, mem_eodAccept_iff rx]
    exact no_marker _
  · rw [group]
    rw [k_eq] at byte ⊢
    exact storeGroup_partialSlot byte (decGroup_encGroup _)

/-- An edge inside the frame: the run before it is received. -/
theorem Receiving.edge (at_e : Receiving s (bs ++ [b]) t0 e u) (rx : Listening s) (frame : Receivable bs b)
    (run : ∀ j < n, (stuffBits (bs ++ [b]))[e + j]? = some (!level)) (pos : 1 ≤ n)
    (inside : e + n < 10 * bs.length + 10) :
    ∃ u', exec (.evEdge level ⟨bitTime s.params.t t0 (e + n), ms⟩) u = .next u' ∧
      Receiving s (bs ++ [b]) t0 (e + n) u' := by
  have r := at_e.run rx frame run pos
  rcases Nat.lt_or_ge (u.nBits + n) 10 with few | full
  · exact r.few few
  · rcases Nat.lt_or_ge e 10 with first | later
    · exact r.sof rx frame full first
    · rw [r.nBits] at full
      exact r.data rx frame (r.nBits ▸ full) later (by omega)

/-- The edge after the EOD marker: the frame is whole and waits for its ACK (R192). -/
theorem Receiving.last_edge (at_e : Receiving s (bs ++ [b]) t0 e u) (rx : Listening s) (frame : Receivable bs b)
    (run : ∀ j < n, (stuffBits (bs ++ [b]))[e + j]? = some (!level)) (pos : 1 ≤ n)
    (ends : e + n = 10 * bs.length + 10) :
    ∃ u', exec (.evEdge level ⟨bitTime s.params.t t0 (e + n), ms⟩) u = .next u' ∧ AwaitingAck s (bs ++ [b]) u' := by
  have r := at_e.run rx frame run pos
  have short := r.short
  have frame_short := frame.short
  have frame_long := frame.long
  have at_last : e / 10 = bs.length := by omega
  obtain ⟨k, k_eq⟩ : ∃ k, bs.length = k + 1 := ⟨bs.length - 1, by omega⟩
  have full : 10 ≤ u.nBits + n := by
    rw [r.nBits]
    omega
  have group : runGroup level n u = eodGroup b := r.runGroup_eq full (at_last ▸ stuffGroups_last bs b)
  obtain ⟨-, -, -, marker⟩ := stuffingIsExactlyTheWellFormedGroups
  have stored : storeGroup (eodGroup b) (partialSlot (bs ++ [b]) (e / 10)) =
      partialSlot (bs ++ [b]) (bs ++ [b]).length := by
    have byte : (bs ++ [b])[bs.length]? = some b := List.getElem?_concat_length
    rw [at_last, List.length_append, List.length_singleton, k_eq]
    rw [k_eq] at byte
    exact storeGroup_partialSlot byte (decGroup_eodGroup frame.clear)
  have size : (partialSlot (bs ++ [b]) (e / 10)).size = bs.length := by
    rw [at_last, k_eq]
    rfl
  refine ⟨_, exec_evEdge_of_eod r.configured r.host r.bus r.at_head r.counted r.kept (by omega) ?_ full ?_ ?_ ?_, ?_⟩
  · rw [at_last, k_eq]
    rfl
  · exact size ▸ frame_short
  · rw [group, r.params, mem_eodAccept_iff rx]
    exact (marker b).1
  · rw [size]
    exact Nat.succ_le_succ frame_long
  · rw [r.decoding_eq, group, stored]
    exact ⟨_, _, _, _, _, rfl⟩

end

/-! ### The whole frame -/

section
variable {s u : State} {bs : List Byte} {b : Byte} {t0 ms : Word} {e : Nat} {prev : Bit}

/-- With the ACK timer off nothing is due before an edge. -/
theorem runEdges_cons_of_disarmed (disarmed : u.ackArmed = false) (now : Word) (level : Bit) (es : List (Word × Bit)) :
    runEdges ms ((now, level) :: es) u = thenRun (exec (.evEdge level ⟨now, ms⟩) u) (runEdges ms es) := by
  have not_due : ackDue u now = false := by rw [ackDue, disarmed, Bool.false_and]
  rw [runEdges, not_due, insertTimeout, if_neg Bool.false_ne_true, thenRun]

theorem feedEdges_replicate (t : Nat) (t0 : Word) (level : Bit) (k n : Nat) :
    feedEdges t t0 level k (List.replicate n level) = [] := by
  induction n generalizing k with
  | zero => rfl
  | succ n ih => rw [List.replicate_succ, feedEdges, if_pos rfl, ih]

theorem Receiving.disarmed {f : List Byte} (at_e : Receiving s f t0 e u) (rx : Listening s) : u.ackArmed = false := by
  obtain ⟨last, bits, -, rfl⟩ := at_e
  exact rx.disarmed

theorem runEdges_nil (u : State) : runEdges ms [] u = .next u := rfl

/-- The trailer after a run of dominant bits: one edge, at its start. -/
theorem feedEdges_trailer (t : Nat) (t0 : Word) (k : Nat) :
    feedEdges t t0 false k (List.replicate txTrailerBits true) = [(bitTime t t0 k, true)] := by
  rw [List.replicate_succ, feedEdges, if_neg Bool.false_ne_true.symm, feedEdges_replicate]

/-- Where the bit at `k` differs from the run before it, it is an edge. -/
theorem feedEdges_cons_of_ne {t : Nat} {v : Bit} (edge : v ≠ prev) (k : Nat) (rest : List Bit) :
    feedEdges t t0 prev k (v :: rest) = (bitTime t t0 k, v) :: feedEdges t t0 v (k + 1) rest := if_neg edge

theorem feedEdges_cons_of_eq (t k : Nat) (rest : List Bit) :
    feedEdges t t0 prev k (prev :: rest) = feedEdges t t0 prev (k + 1) rest := if_pos rfl

theorem stuffStream_drop_of_bit {v : Bit} {k : Nat} (bit : (stuffBits (bs ++ [b]))[k]? = some v) :
    (stuffStream (bs ++ [b])).drop k = v :: (stuffStream (bs ++ [b])).drop (k + 1) := by
  obtain ⟨inside, rfl⟩ := List.getElem?_eq_some_iff.1 bit
  rw [stuffStream_concat, List.drop_eq_getElem_cons (by rw [List.length_append]; omega),
    List.getElem_append_left inside]

theorem stuffStream_drop_trailer (bs : List Byte) (b : Byte) :
    (stuffStream (bs ++ [b])).drop (10 * bs.length + 10) = List.replicate txTrailerBits true := by
  rw [stuffStream_concat, ← stuffBits_length bs b, List.drop_left]

/-- The rest of a frame's stream from bit `k` on, where the bits since the last edge are all `prev`. -/
theorem Receiving.feed_rest (at_e : Receiving s (bs ++ [b]) t0 e u) (rx : Listening s) (frame : Receivable bs b)
    (d : Nat) {n : Nat} (rest : e + n + d = 10 * bs.length + 10) (pos : 1 ≤ n)
    (run : ∀ j < n, (stuffBits (bs ++ [b]))[e + j]? = some prev) :
    ∃ u', runEdges ms (feedEdges s.params.t t0 prev (e + n) ((stuffStream (bs ++ [b])).drop (e + n))) u = .next u' ∧
      AwaitingAck s (bs ++ [b]) u' := by
  induction d generalizing u e n prev with
  | zero =>
    have ends : e + n = 10 * bs.length + 10 := rest
    have dominant : prev = false := by
      have last := run (n - 1) (by omega)
      rw [show e + (n - 1) = 10 * bs.length + 9 by omega, stuffBits_last] at last
      exact (Option.some.inj last).symm
    subst dominant
    obtain ⟨u', edge, waits⟩ := at_e.last_edge (ms := ms) (level := true) rx frame run pos ends
    refine ⟨u', ?_, waits⟩
    rw [ends] at edge ⊢
    rw [stuffStream_drop_trailer, feedEdges_trailer, runEdges_cons_of_disarmed (at_e.disarmed rx), edge, thenRun,
      runEdges_nil]
  | succ d ih =>
    obtain ⟨v, bit⟩ : ∃ v, (stuffBits (bs ++ [b]))[e + n]? = some v :=
      ⟨_, List.getElem?_eq_getElem (by rw [stuffBits_length]; omega)⟩
    rw [stuffStream_drop_of_bit bit]
    by_cases same : v = prev
    · subst same
      rw [feedEdges_cons_of_eq]
      refine ih at_e (n := n + 1) (by omega) (by omega) fun j hj => ?_
      rcases Nat.lt_succ_iff_lt_or_eq.1 hj with before | rfl
      · exact run j before
      · exact bit
    · have level_eq : prev = !v := Bool.eq_not_iff.2 (Ne.symm same)
      obtain ⟨u', edge, at_k⟩ := at_e.edge (ms := ms) (level := v) rx frame (level_eq ▸ run) pos (by omega)
      obtain ⟨u'', runs, waits⟩ := ih at_k (n := 1) (prev := v) (by omega) le_rfl fun j hj => by
        obtain rfl : j = 0 := by omega
        exact bit
      refine ⟨u'', ?_, waits⟩
      rw [feedEdges_cons_of_ne same, runEdges_cons_of_disarmed (at_e.disarmed rx), edge, thenRun, runs]

/-- The first bit of a frame is dominant: the edge that starts a search (R183). -/
theorem stuffBits_first (frame : Receivable bs b) : (stuffBits (bs ++ [b]))[0]? = some false := by
  obtain ⟨inside, at_zero⟩ := List.getElem?_eq_some_iff.1 frame.sof
  rw [stuffBits, groupStream_getElem?, stuffGroups_before_last b inside, List.getD_eq_getElem _ _ inside, at_zero]
  rfl

theorem receiving_start (rx : Listening s) (at_head : s.rxSlots[s.head]? = some vacantSlot) :
    ∃ u, exec (.evEdge false ⟨bitTime s.params.t t0 0, ms⟩) s = .next u ∧ Receiving s (bs ++ [b]) t0 0 u := by
  refine ⟨_, (exec_evEdge_of_enabled rx.configured rx.host rx.bus).trans (edgeHandler_of_vacant at_head rfl), ?_⟩
  exact ⟨s.lastBusActivity, 0, accumulated_none _ _ _, rfl⟩

/-- A frame fed to a listening receiver with a free slot at `head`: the edges leave it waiting for the ACK. -/
theorem runEdges_frame (rx : Listening s) (frame : Receivable bs b) (at_head : s.rxSlots[s.head]? = some vacantSlot) :
    ∃ u, runEdges ms (feedEdges s.params.t t0 true 0 (stuffStream (bs ++ [b]))) s = .next u ∧
      AwaitingAck s (bs ++ [b]) u := by
  have first := stuffBits_first frame
  have stream : stuffStream (bs ++ [b]) = false :: (stuffStream (bs ++ [b])).drop 1 := stuffStream_drop_of_bit first
  obtain ⟨u, edge, at_zero⟩ := receiving_start (t0 := t0) (ms := ms) (bs := bs) (b := b) rx at_head
  obtain ⟨u', runs, waits⟩ := at_zero.feed_rest (ms := ms) (n := 1) (prev := false) rx frame (10 * bs.length + 9)
    (by omega) le_rfl fun j hj => by
      obtain rfl : j = 0 := by omega
      exact first
  refine ⟨u', ?_, waits⟩
  rw [stream, feedEdges_cons_of_ne Bool.false_ne_true, runEdges_cons_of_disarmed rx.disarmed, edge, thenRun]
  exact runs

end

/-! ### The end of the ACK wait -/

section
variable {s : State}

theorem clearHead_slot_other {slot : RxSlot} {i : Nat} (ne : i ≠ s.head) :
    (clearHead slot s).rxSlots[i]? = s.rxSlots[i]? := by
  unfold clearHead
  split
  · rfl
  · rw [overwriteHead_rxSlots, List.getElem?_set_ne ne.symm]

/-- With the drop policy off a completed frame stays in its slot (42_rx_decoder.md R197, R198). -/
theorem complete_of_no_policy {result : RxResult} {ms : Word} {slot : RxSlot} (policy : s.dropEnabled = false)
    (length_eq : s.rxSlots.length = s.q.toNat) (q_ge : 2 ≤ s.q.toNat) (head_lt : s.head < s.rxSlots.length) :
    ∃ s', complete result ms slot s = .next s' ∧ s'.rxSlots[s.head]? = some (completedSlot result ms slot s) := by
  have kept : dropTest (completedSlot result ms slot s) (completedState result ms slot s) ≠ true := by
    rw [Ne, dropTest_iff, completedState_dropEnabled, policy]
    rintro ⟨on, -⟩
    cases on
  have ne := ring_next_ne q_ge (length_eq ▸ head_lt)
  have next_lt : (s.head + 1) % s.q.toNat < s.rxSlots.length := by
    rw [length_eq]
    exact Nat.mod_lt _ (by omega)
  have at_next : (completedState result ms slot s).rxSlots[((completedState result ms slot s).head + 1) %
      (completedState result ms slot s).q.toNat]? = some s.rxSlots[(s.head + 1) % s.q.toNat] := by
    simp [ne.symm, next_lt]
  refine ⟨_, (complete_of_keep kept).trans (advanceHead_eq at_next), ?_⟩
  rw [noteQueued_eq]
  change (clearHead _ (moveHead (completedState result ms slot s))).rxSlots[s.head]? = _
  rw [clearHead_slot_other (by simpa using ne.symm), moveHead_rxSlots, completedState_rxSlots,
    List.getElem?_set_self head_lt]

end

/-- A built frame is one the receiver takes whole (45_tx.md R300). -/
theorem builtFrame_receivable (iden : BitVec 12) (flags : BitVec 4) {data : List Byte} {len : Byte}
    (length_ok : badLength data len = false) :
    Receivable (builtInit iden flags data len) (builtLast iden flags data len) where
  sof := rfl
  long := by
    rw [builtInit_length iden flags length_ok]
    exact Nat.le_add_left 4 _
  short := by
    obtain ⟨le, -⟩ := len_le_of_not_badLength length_ok
    rw [builtInit_length iden flags length_ok]
    exact Nat.lt_of_le_of_lt (Nat.add_le_add_right le 4) (by decide)
  clear := builtLast_clear iden flags data len

/-- The slot that holds the whole frame. -/
theorem partialSlot_whole {f : List Byte} (pos : 1 ≤ f.length) : partialSlot f f.length =
    { vacantSlot with state := .loading, bytes := bufferOf f, size := f.length } := by
  obtain ⟨k, hk⟩ : ∃ k, f.length = k + 1 := ⟨f.length - 1, by omega⟩
  have all : f.take (k + 1) = f := List.take_of_length_le hk.le
  rw [hk, partialSlot, all]

/-- The timer's expiry at its deadline completes the waiting frame (42_rx_decoder.md R194). -/
theorem AwaitingAck.expiry {s u : State} {f : List Byte} (waits : AwaitingAck s f u) (ms : Word) (pos : 1 ≤ f.length)
    (policy : s.dropEnabled = false) (length_eq : s.rxSlots.length = s.q.toNat) (q_ge : 2 ≤ s.q.toNat)
    (head_lt : s.head < s.rxSlots.length) :
    ∃ s', insertTimeout u.ackArmed ms u = .next s' ∧ s'.rxSlots[s.head]? = some
      { state := .done
        bytes := bufferOf f
        size := f.length
        result := .ok
        ack := .noAck
        seqNo := s.rxStats.rxCount
        timestamp := ms
        uncertain := none } := by
  obtain ⟨now, last, bits, m, deadline, rfl⟩ := waits
  have due : (deadline - deadline).toNat < 2 ^ 31 := by
    rw [BitVec.sub_self]
    decide
  obtain ⟨s', ends, in_slot⟩ := complete_of_no_policy (result := .ok) (ms := ms)
    (slot := { partialSlot f f.length with state := .waitingAck, ack := .noAck })
    (s := cancelTimer { decoding s now last bits m { partialSlot f f.length with state := .waitingAck } with
      ackArmed := true
      ackDeadline := deadline }) policy ((List.length_set ..).trans length_eq) q_ge
    ((List.length_set (as := s.rxSlots)).symm ▸ head_lt)
  refine ⟨s', ?_, in_slot.trans ?_⟩
  · rw [insertTimeout, if_pos rfl, exec_evAckTimeout_of_due rfl due,
      ackTimeoutHandler_of_waiting (List.getElem?_set_self head_lt) rfl]
    exact ends
  · rw [partialSlot_whole pos]
    rfl

/-- Settles O40: the edges of the stream take the receiver through the frame's bits to the ACK wait, and the timer's expiry
at the end of the FEED completes the frame in its slot. -/
theorem builtFramesAreReceivedIntact : Obligations.BuiltFramesAreReceivedIntact := by
  intro s slot iden flags data len t0 ms configured host bus disarmed policy params t_pos t_lt length_eq q_ge at_head
    vacant short given f
  subst vacant
  obtain ⟨head_lt, -⟩ := List.getElem?_eq_some_iff.1 at_head
  have length_ok : badLength data len = false := (badLength_eq_false_iff data len).2 ⟨short, given⟩
  have rx : Listening s := ⟨configured, host, bus, disarmed, params, t_pos, t_lt, head_lt⟩
  have frame_eq : f = builtInit iden flags data len ++ [builtLast iden flags data len] :=
    buildFrame_concat iden flags data len
  have pos : 1 ≤ f.length := by
    rw [show f.length = _ from buildFrame_length iden flags length_ok]
    exact Nat.le_add_left 1 _
  obtain ⟨u, runs, waits⟩ := runEdges_frame (t0 := t0) (ms := ms) rx (builtFrame_receivable iden flags length_ok) at_head
  rw [← frame_eq] at runs waits
  obtain ⟨s', ends, in_slot⟩ := waits.expiry ms pos policy length_eq q_ge head_lt
  refine ⟨s', ?_, in_slot⟩
  rw [feed, runs, thenRun, ends]

end Sys2Proof.Machine
end

section
/-! SUPPORT. The bit timer's tick as equations, one for each branch under the condition that selects it (45_tx.md R305 to
R314). -/

namespace Sys2Proof.Machine

open Sys2Proof.Config

section
variable {s : State} {sample : Bit} {ts : Stamp} {t : TxSlot}

theorem exec_evTxTick_of_enabled (on : s.configured = true) (timer : s.txTimerEnabled = true) :
    exec (.evTxTick sample ts) s = tickHandler sample ts s := if_pos (by simp [tickEnabled, on, timer])

theorem tickHandler_of_done (at_tail : s.txSlots[s.txTail]? = some t) (done : t.state = .done) :
    tickHandler sample ts s = .next { s with txTimerEnabled := false } := by
  simp [tickHandler, at_tail, done]

theorem tickHandler_of_waiting (at_tail : s.txSlots[s.txTail]? = some t) (waiting : t.state = .waiting) :
    tickHandler sample ts s = .next (if busIdle s ts.now then startFrame t s else deferFrame t s) := by
  simp [tickHandler, at_tail, waiting]

theorem tickHandler_of_sending (at_tail : s.txSlots[s.txTail]? = some t) (sending : t.state = .sending) :
    tickHandler sample ts s = sendTick t sample ts.now s := by
  simp [tickHandler, at_tail, sending]

/-- Carrier sense, with the exact product (R307; log entry 27). -/
theorem busIdle_iff (s : State) (now : Word) :
    busIdle s now = true ↔ (8 + s.params.ifsBits) * s.params.t < (now - s.lastBusActivity).toNat := decide_eq_true_iff

/-- Settles O47: a tick on a slot that is not SENDING, by its state and by carrier sense. -/
theorem tickStartsOrDefersAFrame : Obligations.TickStartsOrDefersAFrame := by
  intro s sample ts t on timer at_tail
  rw [exec_evTxTick_of_enabled on timer]
  refine ⟨tickHandler_of_done at_tail, fun waiting quiet => ?_, fun waiting recent => ?_⟩
  · rw [tickHandler_of_waiting at_tail waiting, if_pos ((busIdle_iff s ts.now).2 quiet)]
    rfl
  · rw [tickHandler_of_waiting at_tail waiting, if_neg (mt (busIdle_iff s ts.now).1 recent.not_gt)]
    rfl

/-! ### A sending tick -/

variable {now : Word}

/-- The window of collision detection: bit `bitIndex - 1` stands before the EOD marker (R309). -/
theorem inWindow_iff (t : TxSlot) : inWindow t = true ↔ t.bitIndex - 1 + 2 < 10 * t.size := by
  rw [inWindow, decide_eq_true_iff]
  omega

theorem sendTick_of_collision (window : inWindow t = true) (recessive : intendedBit t = true) :
    sendTick t false now s = .next (collide t (t.bitIndex - 1) now s) := by
  rw [sendTick, window, recessive]
  rfl

theorem sendTick_of_bitError (window : inWindow t = true) (dominant : intendedBit t = false) :
    sendTick t true now s = advanceBit t.noteBitError now s.noteBitError := by
  rw [sendTick, window, dominant]
  rfl

theorem sendTick_of_good (good : inWindow t = false ∨ sample = intendedBit t) :
    sendTick t sample now s = advanceBit t now s := by
  rcases good with outside | rfl
  · rw [sendTick, outside, Bool.false_and, Bool.false_and, if_neg Bool.false_ne_true, if_neg Bool.false_ne_true]
  · rw [sendTick, Bool.not_and_self, Bool.and_not_self, Bool.and_false, if_neg Bool.false_ne_true,
      if_neg Bool.false_ne_true]

theorem advanceBit_of_more (more : t.bitIndex ≠ t.nTxBits) : advanceBit t now s = .next (nextBit t s) := if_neg more

theorem advanceBit_of_last (last : t.bitIndex = t.nTxBits) : advanceBit t now s = finishFrame t now s := if_pos last

/-- A collision keeps the position of the first (R310). -/
theorem noteCollision_eq (t : TxSlot) (k : Nat) : t.noteCollision k =
    { t with collisions := t.collisions + 1, firstCollisionPos := some (t.firstCollisionPos.getD k) } := by
  cases h : t.firstCollisionPos <;> simp only [TxSlot.noteCollision, h, Option.getD]

/-- Settles O48: of a sending tick the three branches of the check, and then the next bit. -/
theorem sendingTickChecksAndDrives : Obligations.SendingTickChecksAndDrives := by
  intro s sample ts t on timer at_tail sending _ k bit checked
  have window_iff : inWindow t = true ↔ checked := inWindow_iff t
  rw [exec_evTxTick_of_enabled on timer, tickHandler_of_sending at_tail sending]
  refine ⟨fun window dominant recessive => ?_, fun window recessive dominant more => ?_, fun good more => ?_⟩
  · rw [dominant, sendTick_of_collision (window_iff.2 window) recessive, collide, noteCollision_eq]
    rfl
  · rw [recessive, sendTick_of_bitError (window_iff.2 window) dominant, advanceBit_of_more (t := t.noteBitError) more]
    rfl
  · rw [sendTick_of_good (good.imp_left fun outside => Bool.eq_false_iff.2 (mt window_iff.1 outside)),
      advanceBit_of_more more]
    rfl

/-! ### The last tick -/

theorem finishFrame_of_next {u : TxSlot} (next : (sentState t now s).txSlots[(s.txTail + 1) % s.params.txQ]? = some u) :
    finishFrame t now s = .next { sentState t now s with
      txTail := (s.txTail + 1) % s.params.txQ
      txTimerEnabled := if u.state = .waiting then s.txTimerEnabled else false } := by
  simp only [finishFrame, sentState_txTail, sentState_params, sentState_txTimerEnabled, next]

theorem noteSent_txStats (s : State) (collisions : Word) : (s.noteSent collisions).txStats =
    { s.txStats with
      txSent := s.txStats.txSent + 1
      txSingleCollisions := s.txStats.txSingleCollisions + (if collisions = 1 then 1 else 0)
      txMultipleCollisions := s.txStats.txMultipleCollisions + (if 1 < collisions.toNat then 1 else 0) } := by
  have counted (c : Word) (p : Prop) [Decidable p] : (if p then c + 1 else c) = c + if p then 1 else 0 := by
    split
    · rfl
    · exact (BitVec.add_zero c).symm
  simp only [State.noteSent, counted]

/-- Settles O49: with all bits driven the tick is past the window, so it is the end of the transmission. -/
theorem lastTickFinishesTheFrame : Obligations.LastTickFinishesTheFrame := by
  intro s sample ts t u on timer at_tail sending last long next at_next
  have outside : inWindow t = false := by
    rw [← Bool.not_eq_true, inWindow_iff]
    omega
  have timer_eq : (if u.state = .waiting then s.txTimerEnabled else false) = decide (u.state = .waiting) := by
    rw [timer]
    by_cases waiting : u.state = .waiting <;> simp [waiting]
  have stats := noteSent_txStats s t.collisions
  rw [exec_evTxTick_of_enabled on timer, tickHandler_of_sending at_tail sending, sendTick_of_good (.inl outside),
    advanceBit_of_last last, finishFrame_of_next at_next, timer_eq, ← stats]
  rfl

end

end Sys2Proof.Machine
end

section
/-! SUPPORT. A transmission on a quiet bus (45_tx.md R308, R313, R314; 30_encoding.md R121): each tick samples the level that
the block drives itself, so the next bit is driven until the stream ends. -/

namespace Sys2Proof.Machine

open Sys2Proof.Config

/-! ### Ticks, one after another -/

/-- One tick of TICKS with every other node recessive: the sample is the block's own level. -/
def quietTick (t0 ms : Word) (k : Nat) (s : State) : Out :=
  exec (.evTxTick s.txPinLevel ⟨bitTime s.params.t t0 k, ms⟩) s

theorem busLevel_alone (level : Bit) (k : Nat) : busLevel [level, ([] : List Bit).getD k true] = level := by
  cases level <;> rfl

theorem ticksFrom_succ_quiet (t0 ms : Word) (k n : Nat) (s : State) :
    ticksFrom t0 ms [] k (n + 1) s = thenRun (quietTick t0 ms k s) (ticksFrom t0 ms [] (k + 1) n) := by
  rw [ticksFrom, busLevel_alone, quietTick]

theorem thenRun_assoc (o : Out) (f g : State → Out) : thenRun (thenRun o f) g = thenRun o fun s => thenRun (f s) g := by
  cases o <;> rfl

theorem thenRun_next (o : Out) : thenRun o .next = o := by
  cases o <;> rfl

/-- The last tick of a sequence, taken off its end. -/
theorem ticksFrom_succ_last (t0 ms : Word) (k n : Nat) (s : State) :
    ticksFrom t0 ms [] k (n + 1) s = thenRun (ticksFrom t0 ms [] k n s) (quietTick t0 ms (k + n)) := by
  induction n generalizing k s with
  | zero =>
    rw [ticksFrom_succ_quiet, Nat.add_zero]
    exact thenRun_next _
  | succ n ih =>
    have later : ticksFrom t0 ms [] (k + 1) (n + 1) =
        fun u => thenRun (ticksFrom t0 ms [] (k + 1) n u) (quietTick t0 ms (k + (n + 1))) := by
      funext u
      rw [ih, show k + 1 + n = k + (n + 1) by omega]
    rw [ticksFrom_succ_quiet, later, ← thenRun_assoc, ← ticksFrom_succ_quiet]

theorem ticks_succ (t0 ms : Word) (n : Nat) (s : State) :
    ticks t0 ms (n + 1) [] s = thenRun (ticks t0 ms n [] s) (quietTick t0 ms n) := by
  rw [ticks, ticks, ticksFrom_succ_last, Nat.zero_add]

/-! ### The transmission -/

/-- The transmitter with bit `k` of the frame of `t` on the wire. -/
def driving (s : State) (t : TxSlot) (k : Nat) : State :=
  { s with
    rxTxSuspended := true
    txPinLevel := t.txBits.getD k false
    txSlots := s.txSlots.set s.txTail { t with state := .sending, bitIndex := k + 1 } }

section
variable {s : State} {t : TxSlot} {t0 ms : Word} (on : s.configured = true) (timer : s.txTimerEnabled = true)
  (at_tail : s.txSlots[s.txTail]? = some t)
include on timer at_tail

/-- The first tick starts the frame (R307, R308). -/
theorem quietTick_start (waiting : t.state = .waiting)
    (quiet : (8 + s.params.ifsBits) * s.params.t < (t0 - s.lastBusActivity).toNat) :
    quietTick t0 ms 0 s = .next (driving s t 0) := by
  have first : bitTime s.params.t t0 0 = t0 := by
    rw [bitTime, Nat.zero_mul]
    exact BitVec.add_zero t0
  obtain ⟨-, starts, -⟩ := tickStartsOrDefersAFrame s s.txPinLevel ⟨bitTime s.params.t t0 0, ms⟩ t on timer at_tail
  rw [first] at starts
  rw [quietTick, first]
  exact starts waiting quiet

/-- While bits are left, a tick drives the next (R313). -/
theorem quietTick_next {k : Nat} (more : k + 1 ≠ t.nTxBits) :
    quietTick t0 ms (k + 1) (driving s t k) = .next (driving s t (k + 1)) := by
  obtain ⟨inside, -⟩ := List.getElem?_eq_some_iff.1 at_tail
  obtain ⟨-, -, drives⟩ := sendingTickChecksAndDrives (driving s t k) (driving s t k).txPinLevel
    ⟨bitTime s.params.t t0 (k + 1), ms⟩ { t with state := .sending, bitIndex := k + 1 } on timer
    (List.getElem?_set_self inside) rfl (Nat.le_add_left 1 k)
  refine (drives (.inr rfl) more).trans ?_
  simp only [driving, List.set_set]

/-- The tick after the last bit ends the transmission (R314). -/
theorem quietTick_last {k : Nat} {u : TxSlot} (last : k + 1 = t.nTxBits) (long : 10 * t.size ≤ t.nTxBits)
    (at_next : (s.txSlots.set s.txTail { t with state := .done, bitIndex := k + 1 })[(s.txTail + 1) % s.params.txQ]? =
      some u) :
    ∃ s', quietTick t0 ms (k + 1) (driving s t k) = .next s' ∧ s'.txPinLevel = true ∧ s'.rxTxSuspended = false ∧
      s'.txTail = (s.txTail + 1) % s.params.txQ ∧ s'.txStats.txSent = s.txStats.txSent + 1 ∧
      s'.txStats.txBitErrors = s.txStats.txBitErrors ∧ s'.lastBusActivity = bitTime s.params.t t0 (k + 1) ∧
      s'.txSlots[s.txTail]? = some { t with state := .done, bitIndex := k + 1 } := by
  obtain ⟨inside, -⟩ := List.getElem?_eq_some_iff.1 at_tail
  have slots_eq : (driving s t k).txSlots.set s.txTail { t with state := .done, bitIndex := k + 1 } =
      s.txSlots.set s.txTail { t with state := .done, bitIndex := k + 1 } := List.set_set ..
  have ends := lastTickFinishesTheFrame (driving s t k) (driving s t k).txPinLevel
    ⟨bitTime s.params.t t0 (k + 1), ms⟩ { t with state := .sending, bitIndex := k + 1 } u on timer
    (List.getElem?_set_self inside) rfl last long (slots_eq ▸ at_next)
  refine ⟨_, ends, rfl, rfl, rfl, rfl, rfl, rfl, ?_⟩
  exact (congrArg (·[s.txTail]?) slots_eq).trans (List.getElem?_set_self inside)

/-- The ticks up to the one that drives bit `k`. -/
theorem ticks_driving (waiting : t.state = .waiting)
    (quiet : (8 + s.params.ifsBits) * s.params.t < (t0 - s.lastBusActivity).toNat) {k : Nat} (hk : k < t.nTxBits) :
    ticks t0 ms (k + 1) [] s = .next (driving s t k) := by
  induction k with
  | zero =>
    rw [ticks_succ]
    exact quietTick_start on timer at_tail waiting quiet
  | succ k ih =>
    rw [ticks_succ, ih (by omega)]
    exact quietTick_next on timer at_tail (by omega)

end

theorem stuffStream_length_of_ne_nil {f : List Byte} (ne : f ≠ []) : (stuffStream f).length = 10 * f.length + 10 := by
  rw [← List.dropLast_append_getLast ne, stuffStream_length, List.length_append, List.length_singleton]

/-- The stream of a queued frame has as many bits as its slot says (R45). -/
theorem TxSlotOk.txBits_length {t : TxSlot} (ok : TxSlotOk t) (queued : t.state ≠ .done) :
    t.txBits.length = t.nTxBits := by
  obtain ⟨long, -, nTxBits⟩ := ok.of_queued queued
  have ne : readBytes t.bytes t.size ≠ [] := by
    rw [Ne, ← List.length_eq_zero_iff, readBytes_length]
    exact Nat.ne_of_gt (Nat.lt_of_lt_of_le (by decide) long)
  rw [ok.bits_eq, stuffStream_length_of_ne_nil ne, readBytes_length, nTxBits]

/-- Settles O50: the ticks drive the slot's stream bit by bit, which is the stuffed stream of its frame, and the tick after
its last bit ends the transmission. -/
theorem aQuietBusSendsTheWholeStream : Obligations.AQuietBusSendsTheWholeStream := by
  intro s t t0 ms inv on timer at_tail waiting quiet
  have tx := inv.on on
  have ok := tx.slots_ok t (List.mem_of_getElem? at_tail)
  have queued : t.state ≠ .done := by simp [waiting]
  obtain ⟨-, -, nTxBits⟩ := ok.of_queued queued
  constructor
  · intro k hk
    refine ⟨_, ticks_driving on timer at_tail waiting quiet (nTxBits ▸ hk), ?_⟩
    have inside : k < t.txBits.length := by
      rw [ok.txBits_length queued, nTxBits]
      exact hk
    rw [← ok.bits_eq, List.getElem?_eq_getElem inside]
    exact congrArg some (List.getD_eq_getElem _ _ inside)
  · have next_lt : (s.txTail + 1) % s.params.txQ < (s.txSlots.set s.txTail
        { t with state := .done, bitIndex := 10 * t.size + 9 + 1 }).length := by
      rw [List.length_set, tx.length_eq]
      exact Nat.mod_lt _ (Nat.zero_lt_of_lt tx.tail_lt)
    obtain ⟨s', ends, pin, bus, tail, sent, errors, activity, slot⟩ := quietTick_last (ms := ms) (t0 := t0)
      (k := 10 * t.size + 9) on timer at_tail nTxBits.symm (by omega) (List.getElem?_eq_getElem next_lt)
    refine ⟨s', ?_, pin, bus, tail, sent, errors, activity, _, slot, rfl, rfl⟩
    rw [ticks_succ, ticks_driving on timer at_tail waiting quiet (by omega)]
    exact ends

end Sys2Proof.Machine
end

section
/-! SUPPORT. Queueing a frame and the passes of a blocking send as equations, one for each branch under the condition that
selects it (45_tx.md R302 to R304). -/

namespace Sys2Proof.Machine

open Sys2Proof.Config

/-! ### An attempt to enqueue -/

section
variable {s : State} {iden : BitVec 12} {flags : BitVec 4} {data : List Byte} {len : Byte} {t : TxSlot}

theorem enqueue_of_refused (refused : s.configured = false ∨ badLength data len = true) :
    enqueue iden flags data len s = .rejected := by
  rcases enqueue_cases iden flags data len s with ⟨-, rejected⟩ | ⟨on, good, -⟩
  · exact rejected
  · simp [on, good] at refused

section
variable (on : s.configured = true) (good : badLength data len = false) (at_head : s.txSlots[s.txHead]? = some t)
include on good at_head

theorem enqueue_of_free (free : t.state = .done) :
    enqueue iden flags data len s = .queued (queueFrame iden flags data len s) := by
  simp [enqueue, on, good, at_head, free]

theorem enqueue_of_used (used : t.state ≠ .done) : enqueue iden flags data len s = .rejected := by
  simp [enqueue, on, good, at_head, used]

end

/-- What the statements call a send that cannot succeed (R302, R303). -/
theorem refused_iff : (s.configured = false ∨ badLength data len = true) ↔
    (s.configured = false ∨ 28 < len.toNat ∨ data.length < len.toNat) := by
  rw [badLength_iff]

/-- Settles O43: TX_ENQUEUE answers whether its attempt queued the frame. -/
theorem txEnqueueQueuesTheFrame : Obligations.TxEnqueueQueuesTheFrame := by
  intro s ts iden flags data len
  have exec_eq : exec (.txEnqueue iden flags data len ts) s = execTxEnqueue iden flags data len s := rfl
  rw [exec_eq, execTxEnqueue]
  refine ⟨fun refused => ?_, fun t on short given at_head => ?_⟩
  · rw [enqueue_of_refused (refused_iff.2 refused)]
    rfl
  · have good := (badLength_eq_false_iff data len).2 ⟨short, given⟩
    refine ⟨fun used => ?_, fun free => ?_⟩
    · rw [enqueue_of_used on good at_head used]
      rfl
    · rw [enqueue_of_free on good at_head free]
      rfl

/-! ### A pass of a blocking send -/

variable {p : Send} {ms : Word}

theorem sendPass_of_waitSlot (phase : p.sendPhase = .waitSlot) : sendPass p ms s = waitSlotPass p ms s := by
  rw [sendPass, phase]

theorem sendPass_of_waitDone (phase : p.sendPhase = .waitDone) : sendPass p ms s = waitDonePass p ms s := by
  rw [sendPass, phase]

section
variable (on : s.configured = true) (good : badLength p.data p.len = false) (at_head : s.txSlots[s.txHead]? = some t)
include on good at_head

theorem waitSlotPass_of_free_async (free : t.state = .done) (kind : p.kind = .async) :
    waitSlotPass p ms s = .next ((queueFrame p.iden p.flags p.data p.len s).endSend true) := by
  simp only [waitSlotPass, enqueue_of_free on good at_head free, kind]

theorem waitSlotPass_of_free_sync (free : t.state = .done) (kind : p.kind = .sync) :
    waitSlotPass p ms s = .next ((queueFrame p.iden p.flags p.data p.len s).sendQueued p s.txHead ms) := by
  simp only [waitSlotPass, enqueue_of_free on good at_head free, kind]

theorem waitSlotPass_of_used (used : t.state ≠ .done) : waitSlotPass p ms s =
    if sendTimedOut p ms then .next (s.noteTxDropped.endSend false) else .next (s.waitSend p ms) := by
  simp only [waitSlotPass, enqueue_of_used on good at_head used]

end

section
variable (at_slot : s.txSlots[p.sendSlot]? = some t)
include at_slot

theorem waitDonePass_of_done (done : t.state = .done) : waitDonePass p ms s = .next (s.endSend true) := by
  simp only [waitDonePass, at_slot, if_pos done]

theorem waitDonePass_of_not_done (other : t.state ≠ .done) : waitDonePass p ms s =
    if sendTimedOut p ms then .next (s.endSend false) else .next (s.waitSend p ms) := by
  simp only [waitDonePass, at_slot, if_neg other]

end

end

/-! ### A send as issued -/

section
variable {s : State} {kind : SendKind} {iden : BitVec 12} {flags : BitVec 4} {data : List Byte} {len : Byte}
  {timeoutMs : Word} {ts : Stamp} {t : TxSlot}

theorem startSend_of_refused (refused : s.configured = false ∨ badLength data len = true) :
    startSend kind iden flags data len timeoutMs ts s = .next (s.endSend false) := by
  refine if_pos ?_
  rcases refused with off | bad
  · rw [off]
    rfl
  · rw [bad, Bool.or_true]

theorem startSend_of_possible (on : s.configured = true) (good : badLength data len = false) :
    startSend kind iden flags data len timeoutMs ts s =
      waitSlotPass (newSend kind iden flags data len timeoutMs ts.ms) ts.ms s := by
  refine (if_neg ?_).trans (sendPass_of_waitSlot rfl)
  rw [on, good]
  exact Bool.false_ne_true

/-- On its first pass a send has timed out exactly if its timeout is 0. -/
theorem sendTimedOut_newSend_iff (ms : Word) :
    sendTimedOut (newSend kind iden flags data len timeoutMs ms) ms = true ↔ timeoutMs = 0 := by
  have zero_iff : timeoutMs.toNat = 0 ↔ timeoutMs = 0 := BitVec.toNat_inj (y := 0)
  rw [sendTimedOut_iff, newSend, BitVec.sub_self, BitVec.toNat_ofNat, Nat.zero_mod, Nat.le_zero, zero_iff]

/-- A first pass that finds the queue full (R303). -/
theorem startSend_of_used (on : s.configured = true) (good : badLength data len = false)
    (at_head : s.txSlots[s.txHead]? = some t) (used : t.state ≠ .done) :
    startSend kind iden flags data len timeoutMs ts s =
      if timeoutMs = 0 then .next (s.noteTxDropped.endSend false)
      else .next (s.waitSend (newSend kind iden flags data len timeoutMs ts.ms) ts.ms) := by
  rw [startSend_of_possible on good, waitSlotPass_of_used on good at_head used]
  exact if_congr (sendTimedOut_newSend_iff ts.ms) rfl rfl

end

/-- Settles O44: SEND_PACKET's first pass, by the slot at `txHead` and the timeout. -/
theorem sendPacketFirstAttempt : Obligations.SendPacketFirstAttempt := by
  intro s ts iden flags data len timeoutMs
  have exec_eq : exec (.sendPacket iden flags data len timeoutMs ts) s =
    startSend .async iden flags data len timeoutMs ts s := rfl
  rw [exec_eq]
  refine ⟨fun refused => startSend_of_refused (refused_iff.2 refused), fun t on short given at_head => ?_⟩
  have good := (badLength_eq_false_iff data len).2 ⟨short, given⟩
  refine ⟨fun free => ?_, fun used zero => ?_, fun used timeout => ?_⟩
  · rw [startSend_of_possible on good]
    exact waitSlotPass_of_free_async on good at_head free rfl
  · rw [startSend_of_used on good at_head used, if_pos zero]
    rfl
  · rw [startSend_of_used on good at_head used, if_neg timeout]
    rfl

/-- Settles O45: SYNC_SEND_PACKET's first pass, by the slot at `txHead`; a full queue ends it only at timeout 0. -/
theorem syncSendPacketFirstAttempt : Obligations.SyncSendPacketFirstAttempt := by
  intro s ts iden flags data len timeoutMs
  have exec_eq : exec (.syncSendPacket iden flags data len timeoutMs ts) s =
    startSend .sync iden flags data len timeoutMs ts s := rfl
  rw [exec_eq]
  refine ⟨fun refused => startSend_of_refused (refused_iff.2 refused), fun t on short given at_head => ?_⟩
  have good := (badLength_eq_false_iff data len).2 ⟨short, given⟩
  refine ⟨fun free => ?_, fun used => ?_⟩
  · rw [startSend_of_possible on good]
    exact waitSlotPass_of_free_sync on good at_head free rfl
  · rw [startSend_of_used on good at_head used]
    by_cases zero : timeoutMs = 0
    · simp only [if_pos zero]
      rfl
    · simp only [if_neg zero]
      rfl

/-! ### A later pass -/

section
variable {s : State} {p : Send}

/-- With no record placed, or one that the host moves before, the step is the host's pass (60_exceptions.md R364). -/
theorem step_of_pass (moves : s.input = [] ∨ ∃ i rest, decode s.input = .ok (i, rest) ∧ hostFirst i s = true)
    (sending : s.send = some p) : step s = sendPass p p.nextPollMs s := by
  rw [← hostPoll_of_send sending]
  rcases moves with empty | ⟨i, rest, decodes, first⟩
  · rw [step, performNext, empty]
  · rw [step_of_decode decodes, if_pos first]

end

/-- Settles O46: the step is the host's pass, and each clause is the pass's branch of that phase and slot. -/
theorem blockingSendPasses : Obligations.BlockingSendPasses := by
  intro s p t moves sending on good at_slot timedOut again
  have timedOut_iff : sendTimedOut p p.nextPollMs = true ↔ timedOut := sendTimedOut_iff p p.nextPollMs
  rw [step_of_pass moves sending]
  cases phase : p.sendPhase with
  | waitSlot =>
    rw [if_pos phase] at at_slot
    rw [sendPass_of_waitSlot phase]
    refine ⟨fun used early => ?_, fun used late _ => ?_, fun _ _ other => (nomatch other), fun _ other => (nomatch other),
      fun free _ kind => ?_, fun free _ kind => ?_⟩
    · rw [waitSlotPass_of_used on good at_slot used, if_neg (mt timedOut_iff.1 early)]
      rfl
    · rw [waitSlotPass_of_used on good at_slot used, if_pos (timedOut_iff.2 late)]
      rfl
    · exact waitSlotPass_of_free_async on good at_slot free kind
    · exact waitSlotPass_of_free_sync on good at_slot free kind
  | waitDone =>
    rw [if_neg (by simp [phase])] at at_slot
    rw [sendPass_of_waitDone phase]
    refine ⟨fun used early => ?_, fun _ _ other => (nomatch other), fun used late _ => ?_, fun done _ => ?_,
      fun _ other => (nomatch other), fun _ other => (nomatch other)⟩
    · rw [waitDonePass_of_not_done at_slot used, if_neg (mt timedOut_iff.1 early)]
      rfl
    · rw [waitDonePass_of_not_done at_slot used, if_pos (timedOut_iff.2 late)]
      rfl
    · exact waitDonePass_of_done at_slot done

end Sys2Proof.Machine
end

section
/-! SUPPORT. Events that are not delivered (60_exceptions.md R362; log entry 6): what turns each source off, and that such an
event changes nothing. -/

namespace Sys2Proof.Machine

theorem deliver_of_disabled {enabled : Bool} (off : enabled = false) (handler : State → Out) (s : State) :
    deliver enabled handler s = .next s := if_neg (Bool.eq_false_iff.1 off)

section
variable {s : State}

theorem edgeEnabled_eq_false_iff :
    edgeEnabled s = false ↔ s.configured = false ∨ s.rxHostEnabled = false ∨ s.rxTxSuspended = true := by
  rw [edgeEnabled, Bool.and_eq_false_iff, Bool.and_eq_false_iff, Bool.not_eq_false', or_assoc]

theorem tickEnabled_eq_false_iff : tickEnabled s = false ↔ s.configured = false ∨ s.txTimerEnabled = false :=
  Bool.and_eq_false_iff

theorem ackDue_eq_false_iff {now : Word} :
    ackDue s now = false ↔ s.ackArmed = false ∨ 2 ^ 31 ≤ (now - s.ackDeadline).toNat := by
  rw [← Bool.not_eq_true, ackDue_iff, not_and_or, Bool.not_eq_true, Nat.not_lt]

end

/-- Settles O28: each condition turns the event's source off, and an event of a source that is off is not delivered. -/
theorem undeliveredEventsChangeNothing : Obligations.UndeliveredEventsChangeNothing := by
  intro s b ts
  refine ⟨fun off => ?edge, fun off => ?tick, fun off => ?timeout⟩
  case edge => exact deliver_of_disabled (edgeEnabled_eq_false_iff.2 off) (edgeHandler b ts) s
  case tick => exact deliver_of_disabled (tickEnabled_eq_false_iff.2 off) (tickHandler b ts) s
  case timeout => exact deliver_of_disabled (ackDue_eq_false_iff.2 off) (ackTimeoutHandler ts) s

end Sys2Proof.Machine
end

section
/-! SUPPORT. The receive side never faults (20_memory.md R84; 42_rx_decoder.md R195): with a slot for `head` to move on to,
every step of the decoder ends in a next state. -/

namespace Sys2Proof.Machine

open Sys2Proof.Config

/-! ### The decoder's steps -/

section
variable {s : State} {slot : RxSlot} (next_lt : (s.head + 1) % s.q.toNat < s.rxSlots.length)
include next_lt

theorem loadGroup_ends (g : Group) (ts : Stamp) (slot : RxSlot) : ∃ s', loadGroup g ts slot s = .next s' := by
  rcases Nat.lt_or_ge slot.size maxFrame with room | full
  · by_cases ends : g.extractLsb' 0 2 ∈ s.params.eodAccept ∧ minEodSize ≤ slot.size + 1
    · obtain ⟨eod, long⟩ := ends
      exact ⟨_, loadGroup_of_eod room eod long⟩
    · rw [not_and_or, Nat.not_le] at ends
      exact ⟨_, loadGroup_of_data room ends⟩
  · rw [loadGroup_of_full full]
    exact complete_ends _ _ _ next_lt

theorem takeGroup_ends (ts : Stamp) (running : slot.state = .searching ∨ slot.state = .loading) :
    ∃ s', takeGroup ts slot s = .next s' := by
  rcases running with searching | loading
  · exact ⟨_, takeGroup_of_searching searching⟩
  · rw [takeGroup_of_loading loading]
    exact loadGroup_ends (s := dropGroup s) next_lt ..

theorem acceptRun_ends (v : Bit) (r : BitCount) (ts : Stamp)
    (running : slot.state = .searching ∨ slot.state = .loading) : ∃ s', acceptRun v r ts slot s = .next s' := by
  rcases Nat.lt_or_ge (s.nBits + (correctRun s.params v s.nBits r slot).n) groupBits with few | group
  · exact ⟨_, acceptRun_of_few few⟩
  · rw [acceptRun_of_group group]
    refine takeGroup_ends (s := appendRun v _ _ s) next_lt ts ?_
    rwa [correctRun_slot_state]

theorem runStep_ends (level : Bit) (c : Word) (ts : Stamp)
    (running : slot.state = .searching ∨ slot.state = .loading) : ∃ s', runStep level c ts slot s = .next s' := by
  rcases Nat.lt_or_ge maxRunBits (bitCount s.params c s.jitter).n with long | short
  · rcases running with searching | loading
    · exact ⟨_, runStep_of_long_searching long searching⟩
    · rw [runStep_of_long_loading long loading]
      exact complete_ends _ _ _ next_lt
  · rw [runStep_of_short short]
    exact acceptRun_ends next_lt _ _ ts running

theorem ackEdge_ends (level : Bit) (c : Word) (ts : Stamp) (slot : RxSlot) :
    ∃ s', ackEdge level c ts slot s = .next s' := by
  by_cases pulse : isAckPulse s.params level c = true
  · rw [ackEdge_of_pulse pulse]
    exact complete_ends (s := cancelTimer s) _ _ _ next_lt
  · rw [ackEdge_of_no_pulse pulse]
    exact runStep_ends (s := cancelTimer s) next_lt level c ts (.inr rfl)

end

/-! ### The two events -/

section
variable {s : State} (on : RxOn s)
include on

theorem RxOn.next_lt : (s.head + 1) % s.q.toNat < s.rxSlots.length := on.length_eq ▸ on.pool.next_lt

theorem RxOn.exists_at_head : ∃ slot, s.rxSlots[s.head]? = some slot :=
  ⟨_, List.getElem?_eq_getElem (on.length_eq ▸ on.head_lt)⟩

theorem RxOn.exists_at_tail : ∃ slot, s.rxSlots[s.tail]? = some slot :=
  ⟨_, List.getElem?_eq_getElem (on.length_eq ▸ on.tail_lt)⟩

/-- An edge finds the slot at `head` not DONE, and has a meaning in each of the other states (R180, R195). -/
theorem edgeHandler_ends (level : Bit) (ts : Stamp) : ∃ s', edgeHandler level ts s = .next s' := by
  obtain ⟨slot, at_head⟩ := on.exists_at_head
  have running_ends (running : slot.state = .searching ∨ slot.state = .loading) :
      ∃ s', edgeHandler level ts s = .next s' := by
    rw [edgeHandler_of_running at_head running]
    exact runStep_ends (s := edgePrologue level ts.now s) on.next_lt level _ ts running
  cases state : slot.state with
  | vacant => exact ⟨_, edgeHandler_of_vacant at_head state⟩
  | searching => exact running_ends (.inl state)
  | loading => exact running_ends (.inr state)
  | waitingAck =>
    rw [edgeHandler_of_waiting at_head state]
    exact ackEdge_ends (s := edgePrologue level ts.now s) on.next_lt ..
  | done => exact absurd state (on.head_open slot at_head)

theorem ackTimeoutHandler_ends (ts : Stamp) : ∃ s', ackTimeoutHandler ts s = .next s' := by
  obtain ⟨slot, at_head⟩ := on.exists_at_head
  by_cases waiting : slot.state = .waitingAck
  · rw [ackTimeoutHandler_of_waiting at_head waiting]
    exact complete_ends (s := cancelTimer s) _ _ _ on.next_lt
  · exact ⟨_, ackTimeoutHandler_of_not_waiting at_head waiting⟩

end

end Sys2Proof.Machine
end

section
/-! SUPPORT. A due ACK timeout before an edge (60_exceptions.md R364, R365; log entry 7): what a completion counts and keeps,
and that the step after the timeout is the edge. -/

namespace Sys2Proof.Machine

/-! ### A completion -/

section
variable {result : RxResult} {ms : Word} {slot : RxSlot} {s s' : State}

theorem clearHead_rxCount (slot : RxSlot) (s : State) :
    (clearHead slot s).rxStats.rxCount = s.rxStats.rxCount := by
  unfold clearHead
  split
  · rfl
  · rfl

/-- Every completion takes one sequence number (42_rx_decoder.md R196). -/
theorem complete_rxCount (h : complete result ms slot s = .next s') : s'.rxStats.rxCount = s.rxStats.rxCount + 1 := by
  rcases complete_next h with ⟨-, rfl⟩ | ⟨-, h⟩
  · rfl
  · obtain ⟨next, -, rfl⟩ := advanceHead_next h
    rw [noteQueued_eq]
    exact clearHead_rxCount next (moveHead (completedState result ms slot s))

theorem complete_prevEdgeTime (h : complete result ms slot s = .next s') : s'.prevEdgeTime = s.prevEdgeTime := by
  have outside : s'.outsideRx.prevEdgeTime = s.outsideRx.prevEdgeTime := by rw [(complete_writes h).outside]
  exact outside

/-- With the drop policy off a completed frame is in its slot afterwards (R197, R198). -/
theorem complete_slot_of_no_policy (pool : RxPool s) (policy : s.dropEnabled = false)
    (h : complete result ms slot s = .next s') : s'.rxSlots[s.head]? = some (completedSlot result ms slot s) := by
  obtain ⟨u, ends, in_slot⟩ := complete_of_no_policy (result := result) (ms := ms) (slot := slot) policy
    pool.length_eq pool.q_ge (pool.length_eq ▸ pool.head_lt)
  cases ends.symm.trans h
  exact in_slot

end

/-! ### The step -/

section
variable {s : State}

theorem RxInv.configured_of_slot {slot : RxSlot} {i : Nat} (inv : RxInv s) (at_i : s.rxSlots[i]? = some slot) :
    s.configured = true := by
  by_contra not_on
  obtain ⟨-, -, no_slots⟩ := inv.off (Bool.eq_false_iff.2 not_on)
  simp [no_slots] at at_i

theorem hostFirst_of_no_send (i : Instr) (no_send : s.send = none) : hostFirst i s = false := by
  rw [hostFirst, no_send]

end

/-- Settles O38: the frame in WAITING_ACK has the timer armed, so the step is its expiry, which completes the frame; with the
timer off and no send under way, nothing comes before the record at the step after. -/
theorem dueTimeoutComesBeforeTheEdge : Obligations.DueTimeoutComesBeforeTheEdge := by
  intro s slot level ts rest inv no_send decodes at_head waiting due
  have on := inv.on (inv.configured_of_slot at_head)
  have armed : s.ackArmed = true := on.ack_armed.2 ⟨slot, at_head, waiting⟩
  have due_first : timeoutFirst (.evEdge level ts) s = true := (ackDue_iff s ts.now).2 ⟨armed, due⟩
  obtain ⟨-, at_timeout, -⟩ := stepRunsTheDecodedOperation s (.evEdge level ts) rest decodes
  obtain ⟨fires, after⟩ := at_timeout (hostFirst_of_no_send _ no_send) due_first
  obtain ⟨s', ends⟩ := ackTimeoutHandler_ends on ⟨s.ackDeadline, ts.ms⟩
  have next : step s = .next s' := fires.trans ends
  obtain ⟨disarmed, -, -⟩ := ackTimeoutHandler_frame ends
  obtain ⟨input_eq, send_eq, -, then_edge⟩ := after s' next
  rw [ackTimeoutHandler_of_waiting at_head waiting] at ends
  have pool : RxPool (cancelTimer s) := { on.pool with }
  exact ⟨s', next, complete_rxCount ends, disarmed, input_eq, complete_prevEdgeTime ends,
    fun policy => complete_slot_of_no_policy pool policy ends,
    then_edge (hostFirst_of_no_send _ (send_eq.trans no_send))⟩

end Sys2Proof.Machine
end

section
/-! SUPPORT. The transmit side never faults (20_memory.md R84): with slots at `txHead`, `txTail` and after it, every tick and
every pass of a blocking send ends in a next state. -/

namespace Sys2Proof.Machine

/-! ### Queueing and the blocking sends -/

section
variable {s : State}

/-- An attempt to enqueue finds a slot at `txHead` (45_tx.md R302). -/
theorem TxInv.enqueue_in_range (inv : TxInv s) (iden : BitVec 12) (flags : BitVec 4) (data : List Byte) (len : Byte) :
    enqueue iden flags data len s ≠ .outOfRange := by
  rcases enqueue_cases iden flags data len s with ⟨-, e⟩ | ⟨on, -, ⟨missing, -⟩ | ⟨t, -, ⟨-, e⟩ | ⟨-, e⟩⟩⟩
  · simp [e]
  · have pool := inv.on on
    exact absurd (List.getElem?_eq_none_iff.1 missing) (Nat.not_le.2 (pool.length_eq ▸ pool.head_lt))
  · simp [e]
  · simp [e]

theorem execTxEnqueue_ends (inv : TxInv s) (iden : BitVec 12) (flags : BitVec 4) (data : List Byte) (len : Byte) :
    ∃ s', execTxEnqueue iden flags data len s = .next s' := by
  unfold execTxEnqueue
  split
  · exact ⟨_, rfl⟩
  · exact ⟨_, rfl⟩
  · next outside => exact absurd outside (inv.enqueue_in_range _ _ _ _)

theorem waitSlotPass_ends (inv : TxInv s) (h : Send) (ms : Word) : ∃ s', waitSlotPass h ms s = .next s' := by
  unfold waitSlotPass
  split
  · next outside => exact absurd outside (inv.enqueue_in_range _ _ _ _)
  · split
    · exact ⟨_, rfl⟩
    · exact ⟨_, rfl⟩
  · split
    · exact ⟨_, rfl⟩
    · exact ⟨_, rfl⟩

theorem waitDonePass_ends {h : Send} (slot_lt : h.sendSlot < s.txSlots.length) (ms : Word) :
    ∃ s', waitDonePass h ms s = .next s' := by
  have at_slot := List.getElem?_eq_getElem slot_lt
  by_cases done : s.txSlots[h.sendSlot].state = .done
  · exact ⟨_, waitDonePass_of_done at_slot done⟩
  · rw [waitDonePass_of_not_done at_slot done]
    split
    · exact ⟨_, rfl⟩
    · exact ⟨_, rfl⟩

/-- The pass of a send under way, whose slot is one of the pool (10_state.md R53). -/
theorem hostPoll_ends (inv : TxInv s) : ∃ s', hostPoll s = .next s' := by
  cases sending : s.send with
  | none => exact ⟨s, by rw [hostPoll, sending]⟩
  | some h =>
    rw [hostPoll_of_send sending]
    cases phase : h.sendPhase with
    | waitSlot =>
      rw [sendPass_of_waitSlot phase]
      exact waitSlotPass_ends inv ..
    | waitDone =>
      rw [sendPass_of_waitDone phase]
      obtain ⟨on, -, slot_lt⟩ := inv.send_ok h sending
      exact waitDonePass_ends ((inv.on on).length_eq ▸ slot_lt) _

theorem startSend_ends (inv : TxInv s) (kind : SendKind) (iden : BitVec 12) (flags : BitVec 4) (data : List Byte)
    (len : Byte) (timeoutMs : Word) (ts : Stamp) : ∃ s', startSend kind iden flags data len timeoutMs ts s = .next s' := by
  unfold startSend
  split
  · exact ⟨_, rfl⟩
  · rw [sendPass_of_waitSlot rfl]
    exact waitSlotPass_ends inv ..

end

/-! ### The bit timer -/

section
variable {s : State}

/-- The last tick moves `txTail` on to a slot of the pool (45_tx.md R314). -/
theorem advanceBit_ends (next_lt : (s.txTail + 1) % s.params.txQ < s.txSlots.length) (t : TxSlot) (now : Word) :
    ∃ s', advanceBit t now s = .next s' := by
  by_cases last : t.bitIndex = t.nTxBits
  · have next_lt' : (s.txTail + 1) % s.params.txQ < (sentState t now s).txSlots.length := by simpa using next_lt
    rw [advanceBit_of_last last]
    exact ⟨_, finishFrame_of_next (List.getElem?_eq_getElem next_lt')⟩
  · exact ⟨_, advanceBit_of_more last⟩

theorem sendTick_ends (next_lt : (s.txTail + 1) % s.params.txQ < s.txSlots.length) (t : TxSlot) (sample : Bit)
    (now : Word) : ∃ s', sendTick t sample now s = .next s' := by
  unfold sendTick
  split
  · exact ⟨_, rfl⟩
  · split
    · exact advanceBit_ends (s := s.noteBitError) next_lt ..
    · exact advanceBit_ends next_lt ..

theorem TxOn.exists_at_tail (on : TxOn s) : ∃ t, s.txSlots[s.txTail]? = some t :=
  ⟨_, List.getElem?_eq_getElem (on.length_eq ▸ on.tail_lt)⟩

theorem tickHandler_ends (on : TxOn s) (sample : Bit) (ts : Stamp) : ∃ s', tickHandler sample ts s = .next s' := by
  obtain ⟨t, at_tail⟩ := on.exists_at_tail
  have next_lt : (s.txTail + 1) % s.params.txQ < s.txSlots.length := by
    rw [on.length_eq]
    exact Nat.mod_lt _ (Nat.zero_lt_of_lt on.tail_lt)
  cases state : t.state with
  | done => exact ⟨_, tickHandler_of_done at_tail state⟩
  | waiting => exact ⟨_, tickHandler_of_waiting at_tail state⟩
  | sending =>
    rw [tickHandler_of_sending at_tail state]
    exact sendTick_ends next_lt ..

end

end Sys2Proof.Machine
end

section
/-! SUPPORT. No step from a good state faults (60_exceptions.md R350; log entry 12): in a state of both invariants every
operation, every pass of the host and every due timeout ends in a next state, so the only stop is at bytes that are no
operation. -/

namespace Sys2Proof.Machine

/-! ### Every operation ends -/

theorem deliver_ends {enabled : Bool} {handler : State → Out} {s : State}
    (ends : enabled = true → ∃ s', handler s = .next s') : ∃ s', deliver enabled handler s = .next s' := by
  cases enabled with
  | false => exact ⟨s, rfl⟩
  | true => exact ends rfl

section
variable {s : State}

theorem execRepair_ends (f : Frame) (interest : Option Pred) (s : State) : ∃ s', execRepair f interest s = .next s' := by
  unfold execRepair
  split
  · exact ⟨_, rfl⟩
  · dsimp only
    split
    · exact ⟨_, rfl⟩
    · exact ⟨_, rfl⟩

theorem execPreparePacket_ends (iden : BitVec 12) (flags : BitVec 4) (data : List Byte) (len : Byte) (s : State) :
    ∃ s', execPreparePacket iden flags data len s = .next s' := by
  unfold execPreparePacket
  split
  · exact ⟨_, rfl⟩
  · exact ⟨_, rfl⟩

theorem execSetup_ends (rxPin txPin capacity : Word) (ts : Stamp) (s : State) :
    ∃ s', execSetup rxPin txPin capacity ts s = .next s' := by
  rcases execSetup_cases rxPin txPin capacity ts s with ⟨-, answered⟩ | ⟨-, -, answered⟩
  · exact ⟨_, answered⟩
  · exact ⟨_, answered⟩

/-- AVAILABLE finds a slot at `tail` (44_rx_queue.md R264). -/
theorem exec_available_ends (inv : RxInv s) (ts : Stamp) : ∃ s', exec (.available ts) s = .next s' := by
  cases on : s.configured with
  | false => exact ⟨_, exec_available_of_unconfigured on⟩
  | true =>
    obtain ⟨slot, at_tail⟩ := (inv.on on).exists_at_tail
    exact ⟨_, exec_available_of_configured on at_tail⟩

/-- RECEIVE finds a slot at `tail` (R265). -/
theorem exec_receive_ends (inv : RxInv s) (ts : Stamp) : ∃ s', exec (.receive ts) s = .next s' := by
  cases on : s.configured with
  | false => exact ⟨_, exec_receive_of_unconfigured on⟩
  | true =>
    obtain ⟨slot, at_tail⟩ := (inv.on on).exists_at_tail
    rw [exec_receive_of_configured on at_tail]
    split
    · exact ⟨_, rfl⟩
    · exact ⟨_, rfl⟩

/-- In a state of both invariants every operation ends in a next state. -/
theorem exec_ends (rx : RxInv s) (tx : TxInv s) (i : Instr) : ∃ s', exec i s = .next s' := by
  cases i with
  | setup rxPin txPin capacity ts => exact execSetup_ends rxPin txPin capacity ts s
  | available ts => exact exec_available_ends rx ts
  | receive ts => exact exec_receive_ends rx ts
  | sendPacket => exact startSend_ends tx ..
  | syncSendPacket => exact startSend_ends tx ..
  | txEnqueue => exact execTxEnqueue_ends tx ..
  | repair f interest ts => exact execRepair_ends f interest s
  | preparePacket iden flags data len ts => exact execPreparePacket_ends iden flags data len s
  | evEdge level ts =>
    exact deliver_ends fun enabled => edgeHandler_ends (rx.on (edgeEnabled_configured enabled)) level ts
  | evAckTimeout ts =>
    refine deliver_ends fun due => ackTimeoutHandler_ends (rx.on (rx.configured_of_armed ?_)) ts
    obtain ⟨armed, -⟩ := (ackDue_iff s ts.now).1 due
    exact armed
  | evTxTick sample ts =>
    exact deliver_ends fun enabled => tickHandler_ends (tx.on (tickEnabled_configured enabled)) sample ts
  | enable | disable | setDropPolicy => exact ⟨_, rfl⟩
  | getCount | queueSize | getNQueued | getMaxQueued | dumpStats => exact ⟨_, rfl⟩
  | crc | checkCrc | frameIden | frameFlags | frameDataLen | frameData => exact ⟨_, rfl⟩
  | manchEncode | manchDecode | eodTest | sofMatch | bitTimeDecode | stuffFrame => exact ⟨_, rfl⟩

/-! ### Every step ends, or is refused -/

theorem dueTimeout_ends (inv : RxInv s) {i : Instr} (first : timeoutFirst i s = true) (ms : Word) :
    ∃ s', dueTimeout ms s = .next s' :=
  ackTimeoutHandler_ends (inv.on (inv.configured_of_armed (timeoutFirst_armed first))) ⟨s.ackDeadline, ms⟩

theorem step_of_no_input (empty : s.input = []) : step s = hostPoll s := by
  rw [step, performNext, empty]

/-- Bytes that are no record are refused, whatever the decoder says of them (60_exceptions.md R361). -/
theorem step_of_no_record {e : DecodeError} (placed : s.input ≠ []) (error : decode s.input = .error e) :
    step s = .refused (refusalOf e) := by
  obtain ⟨b, bs, cons⟩ := List.exists_cons_of_ne_nil placed
  rw [cons] at error
  simp only [step, performNext, cons, error]

/-- From a state of both invariants a step ends in a next state, or the bytes placed are no operation. -/
theorem step_ends_or_refuses (rx : RxInv s) (tx : TxInv s) :
    (∃ s', step s = .next s') ∨ ∃ e, decode s.input = .error e ∧ step s = .refused (refusalOf e) := by
  by_cases empty : s.input = []
  · rw [step_of_no_input empty]
    exact .inl (hostPoll_ends tx)
  cases decoded : decode s.input with
  | error e => exact .inr ⟨e, rfl, step_of_no_record empty decoded⟩
  | ok record =>
    obtain ⟨i, rest⟩ := record
    rw [step_of_decode decoded]
    left
    split
    · exact hostPoll_ends tx
    · split
      · next first => exact dueTimeout_ends rx first _
      · exact exec_ends (rx.withInput rest) (tx.withInput rest) i

end

/-- Settles O59: the step ends in a next state or is refused, and neither is a fault. -/
theorem goodStatesNeverFault : Obligations.GoodStatesNeverFault := by
  intro s r good
  rcases step_ends_or_refuses good.rx good.tx with ⟨s', next⟩ | ⟨e, -, refused⟩
  · simp [next]
  · simp [refused]

end Sys2Proof.Machine
end

section
/-! SUPPORT. The obligations about the power-on state (70_reset_and_hazards.md R390): an unconfigured block has nothing in
use, and the reference parameters are legal at every bit-time. -/

namespace Sys2Proof.Machine

open Sys2Proof.Config

/-! ### The reference parameters are a legal build -/

/-- What R113 asks of every member of SOF_ACCEPT. -/
theorem near_sof_of_mem_referenceSofAccept {g : Group} (listed : g ∈ referenceSofAccept) :
    g = sofRaw ∨ ∃ k < 10, g = sofRaw ^^^ BitVec.ofNat 10 (2 ^ k) := by
  rcases List.mem_cons.1 listed with exact_sof | flipped
  · exact .inl exact_sof
  · obtain ⟨k, k_mem, rfl⟩ := List.mem_map.1 flipped
    exact .inr ⟨k, List.mem_range.1 k_mem, rfl⟩

theorem den_pos_of_mem_referenceBands {t : Nat} {b : Band} (listed : b ∈ referenceBands t) : 0 < b.hi.den := by
  obtain ⟨k, -, rfl⟩ := List.mem_map.1 listed
  exact Nat.two_pos

/-- The bounds `(2k+1)*T/2` of R142 rise with `k` because `T` is positive. -/
theorem halfBitBound_lt {t j k : Nat} (t_pos : 0 < t) (j_lt : j < k) :
    (halfBitBound t j).num * ((halfBitBound t k).den : Int) < (halfBitBound t k).num * ((halfBitBound t j).den : Int) := by
  have rising : (2 * j + 1) * t < (2 * k + 1) * t := Nat.mul_lt_mul_of_pos_right (by omega) t_pos
  have bounds : (((2 * j + 1) * t : Nat) : Int) < ((2 * k + 1) * t : Nat) := Int.ofNat_lt.2 rising
  exact Int.mul_lt_mul_of_pos_right bounds two_pos

theorem referenceBands_ascend {t : Nat} (t_pos : 0 < t) :
    (referenceBands t).Pairwise fun a b => a.hi.num * (b.hi.den : Int) < b.hi.num * (a.hi.den : Int) ∧ a.n ≤ b.n := by
  rw [referenceBands, List.pairwise_map]
  exact List.pairwise_lt_range.imp fun j_lt => ⟨halfBitBound_lt t_pos j_lt, j_lt.le⟩

theorem bits_le_of_mem_referenceCorrections {t : Nat} {c : RunCorrection} (listed : c ∈ referenceCorrections t) :
    c.bits ≤ c.measuredBits := by
  obtain ⟨st, v, o, n, -, -, -, rfl⟩ := mem_referenceCorrections_iff.1 listed
  exact Nat.sub_le n 1

/-- The build of the reference tables is legal at every bit-time, not at the reference 640 only (00_scope.md R12). -/
theorem legalParams_paramsAt {t : Nat} (t_pos : 0 < t) : LegalParams (paramsAt t) where
  t_pos := t_pos
  qMax_ge := show 2 ≤ 256 by decide
  txQ_pos := show 1 ≤ 4 by decide
  pollMs_pos := Nat.le_refl 1
  sof_mem := List.mem_cons_self
  sof_near _ := near_sof_of_mem_referenceSofAccept
  bands_finite _ := den_pos_of_mem_referenceBands
  bands_ascend := referenceBands_ascend t_pos
  corrections_shorten _ := bits_le_of_mem_referenceCorrections

/-! ### The power-on state -/

/-- Settles O7: each value is the one `State.reset` writes down. -/
theorem powerOnValues : Obligations.PowerOnValues := ⟨rfl, rfl, rfl, rfl, rfl, rfl, rfl, rfl⟩

theorem reset_not_configured : State.reset.configured ≠ true := Bool.false_ne_true

theorem reset_rxInv : RxInv State.reset := by
  obtain ⟨-, host_off, -, -, disarmed, -, no_pool, -⟩ := powerOnValues
  exact ⟨fun _ => ⟨disarmed, host_off, no_pool⟩, fun on => absurd on reset_not_configured⟩

/-- At power-on no send is under way either, so nothing is asked of one. -/
theorem reset_txInv : TxInv State.reset := by
  obtain ⟨-, -, not_suspended, timer_off, -, released, -, no_pool⟩ := powerOnValues
  exact ⟨fun _ => ⟨not_suspended, timer_off, released, no_pool⟩, fun on => absurd on reset_not_configured,
    fun _ under_way => by cases under_way⟩

/-- Settles O55: the reference parameters are legal at `T = 640`, and an unconfigured block meets both invariants by its
power-on values. -/
theorem resetIsGood : Obligations.ResetIsGood where
  params := legalParams_paramsAt (t := 640) (by decide)
  rx := reset_rxInv
  tx := reset_txInv

end Sys2Proof.Machine
end
